-- ==== Sys2Proof/Word.lean ====
section
/-!
DEFINITION. The words of the PL36: the quantities that the manual itself treats as bits, because they wrap or cross
a link (00_scope 5.1, R13, R40). Positions, lengths and counts that saturate or never wrap are natural numbers.
-/

namespace Sys2Proof

/-- A byte on a link. -/
abbrev Byte := BitVec 8

/-- Line time in microseconds: 48 bits, free-running, wrapping (R13). -/
abbrev LineTime := BitVec 48

/-- A panel serial: 16 bits, wrapping (R40). -/
abbrev Serial := BitVec 16

/-- A stroke code on STROKE_W or STROKE_H: 4 bits (R51). -/
abbrev StrokeCode := BitVec 4

end Sys2Proof
end

