-- ==== Sys2Proof/Syntax.lean ====
section
/-!
DEFINITION. The commands of the PL36: one constructor for each row of spec/opcode_table.json, in the table's order.
A command is one whole event (95_what_each_step_holds); its operands are what reaches the part from outside in it.
-/

namespace Sys2Proof

/-- The three links (00_scope 2). -/
inductive Link where
  | line | pattern | unwind
deriving DecidableEq, Repr

/-- The sides of the unwind stand (00_scope 5.3). -/
inductive Side where
  | a | b
deriving DecidableEq, Repr

/-- A zone number, and the number of the probe that belongs to it (00_scope 5.3). -/
inductive ZoneId where
  | z1 | z2 | z3 | z4
deriving DecidableEq, Repr

/-- The moments of a transaction at which something comes about (R177 to R180, log 6): its begin, the accepted assertion of
xSEL_n; the completion of its operation, with the bytes received up to then, byte 0 first; its end, the accepted negation of
xSEL_n, with the number of bytes clocked since the completion. -/
inductive Transaction where
  | begins
  | completes (bytes : List Byte)
  | ends (clocked : Nat)
deriving DecidableEq, Repr

/-- A status poll: its link, and the moment of the transaction (R177). -/
structure Poll where
  link : Link
  moment : Transaction
deriving DecidableEq, Repr

/-- The levels on the input pins, as a reset samples them (R1, R10, R58, R105, R174); true is high for an
active-high pin, and `safeStop` is true when SAFE_STOP_n is asserted. -/
structure InputLevels where
  feedA : Bool
  feedB : Bool
  carr : Bool
  mark : Bool
  revA : Bool
  revB : Bool
  probe1 : Bool
  probe2 : Bool
  probe3 : Bool
  probe4 : Bool
  safeStop : Bool
deriving DecidableEq, Repr

/-- The commands: every row of spec/opcode_table.json. A request row (RUN to TAKE_NOTICE, and
UNASSIGNED_REQUEST_CODE) is the arbiter's grant of a queued frame with the taking of that request (R181, R183), so its
arguments stand in the frame that REQUEST_FRAME queued. -/
inductive Instr where
  /-- POWER_ON_RESET, with the levels on the input pins at its end. -/
  | powerOnReset (levels : InputLevels)
  /-- HARD_RESET: the accepted assertion of RESET_n. -/
  | hardReset
  /-- HARD_RESET_END: the accepted negation of RESET_n, with the levels on the input pins. -/
  | hardResetEnd (levels : InputLevels)
  /-- FEED_ENCODER_CHANGE, with the newly accepted channel state (FEED_A, FEED_B). -/
  | feedEncoderChange (a b : Bool)
  /-- SPEED_GATE_END. -/
  | speedGateEnd
  /-- FEED_STANDSTILL_EXPIRY. -/
  | feedStandstillExpiry
  /-- CARRIER_TICK. -/
  | carrierTick
  /-- CARRIER_STANDSTILL_EXPIRY. -/
  | carrierStandstillExpiry
  /-- MARK_LEADING_EDGE. -/
  | markLeadingEdge
  /-- MARK_TRAILING_EDGE. -/
  | markTrailingEdge
  /-- PLANNER_BEGIN_COPY. -/
  | plannerBeginCopy
  /-- PLANNER_APPEND_EXPECTATION. -/
  | plannerAppendExpectation
  /-- PLANNER_APPEND_FOLD. -/
  | plannerAppendFold
  /-- PLANNER_APPEND_FLAT. -/
  | plannerAppendFlat
  /-- PLANNER_APPEND_PANEL_END. -/
  | plannerAppendPanelEnd
  /-- OPENING_GAP_END. -/
  | openingGapEnd
  /-- DWELL_END. -/
  | dwellEnd
  /-- CLOSING_GAP_END. -/
  | closingGapEnd
  /-- CLAMP_GAP_EXPIRY. -/
  | clampGapExpiry
  /-- SAFE_STOP_ASSERTION. -/
  | safeStopAssertion
  /-- SAFE_STOP_NEGATION. -/
  | safeStopNegation
  /-- CUT_DWELL_END. -/
  | cutDwellEnd
  /-- PROBE_RISING_EDGE of a probe. -/
  | probeRisingEdge (p : ZoneId)
  /-- PROBE_STALENESS_EXPIRY of a probe. -/
  | probeStalenessExpiry (p : ZoneId)
  /-- VALVE_PERIOD_START of a zone. -/
  | valvePeriodStart (z : ZoneId)
  /-- SUPPLY_END of a zone. -/
  | supplyEnd (z : ZoneId)
  /-- PAUSE_END of a zone. -/
  | pauseEnd (z : ZoneId)
  /-- VENT_END of a zone. -/
  | ventEnd (z : ZoneId)
  /-- DOSE_TICK. -/
  | doseTick
  /-- REVOLUTION_PULSE of a side. -/
  | revolutionPulse (side : Side)
  /-- INTERVAL_OVERFLOW. -/
  | intervalOverflow
  /-- PASTE_DWELL_EXPIRY. -/
  | pasteDwellExpiry
  /-- KNIFE_DWELL_EXPIRY. -/
  | knifeDwellExpiry
  /-- STATUS_POLL on a link; its operation is complete with byte 0. -/
  | statusPoll (poll : Poll)
  /-- FETCH on a link; byte 0 makes it a fetch, and at its end the response is removed. -/
  | fetch (l : Link) (moment : Transaction)
  /-- REQUEST_FRAME on a link; its operation is complete with the frame. A transaction whose byte 0 is no operation (R177's last
  row) has no row of its own and is carried here (log 34). -/
  | requestFrame (l : Link) (moment : Transaction)
  /-- TRUNCATED on a link: xSEL_n negated before the operation is complete, with the whole bytes received. -/
  | truncated (l : Link) (bytes : List Byte)
  /-- RUN. -/
  | run
  /-- DRAIN. -/
  | drain
  /-- STOP. -/
  | stop
  /-- HALT. -/
  | halt
  /-- RESUME. -/
  | resume
  /-- CLEAR_LINE. -/
  | clearLine
  /-- SET_TRACKING. -/
  | setTracking
  /-- SET_HEAD. -/
  | setHead
  /-- SET_CALIBRATION. -/
  | setCalibration
  /-- SET_HEAT. -/
  | setHeat
  /-- SET_ZONE_DUTY. -/
  | setZoneDuty
  /-- SET_LINKS. -/
  | setLinks
  /-- OPEN_PATTERN. -/
  | openPattern
  /-- ADD_STEPS. -/
  | addSteps
  /-- CLOSE_PATTERN. -/
  | closePattern
  /-- DISCARD_PATTERN. -/
  | discardPattern
  /-- QUEUE_PANEL. -/
  | queuePanel
  /-- CANCEL_PANEL. -/
  | cancelPanel
  /-- LOAD_ROLL. -/
  | loadRoll
  /-- ROLL_READY. -/
  | rollReady
  /-- ROLL_WITHDRAW. -/
  | rollWithdraw
  /-- ROLL_ASSIGN. -/
  | rollAssign
  /-- SPLICE_NOW. -/
  | spliceNow
  /-- SET_UNWIND. -/
  | setUnwind
  /-- TAKE_REPORT. -/
  | takeReport
  /-- READ_TRACKING. -/
  | readTracking
  /-- READ_PATTERN. -/
  | readPattern
  /-- READ_QUEUE. -/
  | readQueue
  /-- READ_PLAN. -/
  | readPlan
  /-- READ_MARKS. -/
  | readMarks
  /-- READ_HEAD. -/
  | readHead
  /-- READ_RUN. -/
  | readRun
  /-- READ_MAP. -/
  | readMap
  /-- READ_HEAT. -/
  | readHeat
  /-- READ_UNWIND. -/
  | readUnwind
  /-- READ_STATUS. -/
  | readStatus
  /-- READ_FAULT. -/
  | readFault
  /-- READ_TIME. -/
  | readTime
  /-- SUBSCRIBE. -/
  | subscribe
  /-- TAKE_NOTICE. -/
  | takeNotice
  /-- UNASSIGNED_REQUEST_CODE. -/
  | unassignedRequestCode
  /-- LINK_SELECT_NEGATED on a link. -/
  | linkSelectNegated (l : Link)
deriving DecidableEq, Repr

end Sys2Proof
end

