-- ==== Sys2Proof/Decode.lean ====
section
/-!
DEFINITION. Reading bits. spec/opcode_table.json gives no row any bits, so no word spells a command; what the part
does read from bits is a request frame, byte by byte (R177, R178, R179).
-/

namespace Sys2Proof

/-- The command that a word spells by the table's bits: no row of the table gives bits, so no word spells one. -/
def decodeTableWord (_nbits _w : Nat) : Option Instr := none

/-- What the bytes of one transaction make of a request frame (R177 to R179). -/
inductive FrameShape where
  /-- xSEL_n was negated before byte 0 was complete. -/
  | noByte
  /-- Byte 0 is a status poll's or a fetch's: 0x00 or 0x80. -/
  | notRequest
  /-- Byte 0 has any other value that is not a request code: the transaction has no effect (R177). -/
  | noOperation
  /-- A request frame with the given code, cut short. -/
  | cutShort (code : Byte)
  /-- A complete request frame: its code, its over-length mark, its arguments. -/
  | complete (code : Byte) (overLength : Bool) (args : List Byte)
deriving DecidableEq, Repr

/-- R178: the byte after the code announces the number of argument bytes; above 60 the frame is complete at once,
without arguments and marked over-length. Bytes after a complete frame are ignored. -/
def frameShape : List Byte → FrameShape
  | [] => .noByte
  | code :: rest =>
    if code = 0x00#8 ∨ code = 0x80#8 then .notRequest
    else if code.toNat > 0x3F then .noOperation
    else
      match rest with
      | [] => .cutShort code
      | len :: args =>
        if len.toNat > 60 then .complete code true []
        else if args.length < len.toNat then .cutShort code
        else .complete code false (args.take len.toNat)

end Sys2Proof
end

