-- ==== Sys2Proof/Config.lean ====
section
/-!
DEFINITION. The free values: what the manual leaves open and gives no rule for. They have no body, so nothing proved
of the model rests on a value of theirs.
-/

namespace Sys2Proof.Config

/-- The order in which the spec's blocks take one event, where it imposes none (R5, R66, R170), and which of several
internal events due at once comes first (R9, R14, R86): the n-th free choice of a run. Logs 4 and 5. -/
opaque freeOrder : Nat → BitVec 8

/-- What a response field of the given number of bytes carries when the value it reports does not fit in it (R58 forms
head positions without wrapping, R197 sends positions in 5 bytes, and no rule says what then crosses the link). Log 8. -/
opaque unstatedField : Nat → Nat → BitVec 48

end Sys2Proof.Config
end

