-- ==== Sys2Proof/Machine/State.lean ====
section
/-!
DEFINITION. The state of the PL36: everything the manual gives each block (the "at a glance" tables 1.1, 4.1, 5.1, 6.1,
7.1, 8.1, 9.1, 10.1 and R18, R34, R40, R41, R53, R191, R192), plain data throughout, and its value after a power-on
reset. What the manual defines from other state (the step pool's free count, the credits free, the valve outputs, the
attention lines) is computed and not stored twice.
-/

namespace Sys2Proof.Machine

/-! ## One of each per link, side, zone -/

/-- One value for each link. -/
structure PerLink (α : Type) where
  line : α
  pattern : α
  unwind : α
deriving DecidableEq, Repr

/-- The value of a link. -/
def PerLink.get {α : Type} (p : PerLink α) : Link → α
  | .line => p.line
  | .pattern => p.pattern
  | .unwind => p.unwind

/-- Replace the value of a link. -/
def PerLink.set {α : Type} (p : PerLink α) (l : Link) (x : α) : PerLink α :=
  match l with
  | .line => { p with line := x }
  | .pattern => { p with pattern := x }
  | .unwind => { p with unwind := x }

/-- One value for each side of the unwind stand. -/
structure PerSide (α : Type) where
  a : α
  b : α
deriving DecidableEq, Repr

/-- The value of a side. -/
def PerSide.get {α : Type} (p : PerSide α) : Side → α
  | .a => p.a
  | .b => p.b

/-- Replace the value of a side. -/
def PerSide.set {α : Type} (p : PerSide α) (i : Side) (x : α) : PerSide α :=
  match i with
  | .a => { p with a := x }
  | .b => { p with b := x }

/-- One value for each zone, or for each probe. -/
structure PerZone (α : Type) where
  z1 : α
  z2 : α
  z3 : α
  z4 : α
deriving DecidableEq, Repr

/-- The value of a zone. -/
def PerZone.get {α : Type} (p : PerZone α) : ZoneId → α
  | .z1 => p.z1
  | .z2 => p.z2
  | .z3 => p.z3
  | .z4 => p.z4

/-- Replace the value of a zone. -/
def PerZone.set {α : Type} (p : PerZone α) (z : ZoneId) (x : α) : PerZone α :=
  match z with
  | .z1 => { p with z1 := x }
  | .z2 => { p with z2 := x }
  | .z3 => { p with z3 := x }
  | .z4 => { p with z4 := x }

/-- The same value for all four zones. -/
def PerZone.all {α : Type} (x : α) : PerZone α := ⟨x, x, x, x⟩

/-- A timed operation: the line time at which it began and its duration in microseconds (R14). -/
structure Timer where
  start : LineTime
  dur : Nat
deriving DecidableEq, Repr

/-! ## Trackers (chapter 1) -/

/-- The direction of the last feed tick (R1). -/
inductive Direction where
  | forward | reverse
deriving DecidableEq, Repr

/-- The Feed Tracker (1.1). The decoder reference is `State.levels.feedA` and `feedB`. -/
structure FeedTracker where
  position : Nat
  direction : Direction
  excursion : Nat
  gateCount : Int
  gateStart : LineTime
  speed : Nat
  standstill : Bool
  lastTick : LineTime
deriving DecidableEq, Repr

/-- The Carrier Tracker (1.1). -/
structure CarrierTracker where
  position : Nat
  standstill : Bool
  lastTick : LineTime
deriving DecidableEq, Repr

/-- The eight tracking settings (1.8). -/
structure TrackingSettings where
  feedTick : Nat
  markOffset : Nat
  markWidthMin : Nat
  markWidthMax : Nat
  reverseTolerance : Nat
  standstillMs : Nat
  exitDistance : Nat
  cutDwell : Nat
deriving DecidableEq, Repr

/-! ## Pattern Store (chapter 2) -/

/-- A pattern's header (2.2). -/
structure Header where
  tag : Nat
  repeatLen : Nat
  shrink : Nat
  window : Nat
  lagLimit : Nat
  doseMin : Nat
  doseMax : Nat
  baseTemp : Nat
deriving DecidableEq, Repr

/-- The kind of a step (2.3). -/
inductive StepKind where
  | knife | box | accordion | flat
deriving DecidableEq, Repr

/-- A step record, as R21 stores it. -/
structure PatternStep where
  kind : StepKind
  pitch : Nat
  waist : Nat
  hem : Nat
  count : Nat
  spliceOk : Bool
deriving DecidableEq, Repr

/-- A pattern slot, with the parts the table of 2.1 gives each state (R18). -/
inductive Slot where
  | empty
  | loading (header : Header) (steps : List PatternStep)
  | ready (header : Header) (steps : List PatternStep) (refs : Nat)
  | retiring (header : Header) (steps : List PatternStep) (refs : Nat)
deriving DecidableEq, Repr

/-! ## Panel Queue, contexts, Plan Queue (chapter 3) -/

/-- A Panel Queue entry (R34). -/
structure PanelOrder where
  slot : Fin 16
  tag : Nat
  copies : Nat
  started : Nat
deriving DecidableEq, Repr

/-- The nine flags of R112. -/
structure PanelFlags where
  missedFold : Bool
  lateFold : Bool
  abortedFold : Bool
  seam : Bool
  underSet : Bool
  overSet : Bool
  heatUnknown : Bool
  regLost : Bool
  strokeClamped : Bool
deriving DecidableEq, Repr

/-- The planning state of the copy being planned (R41); its cursor is the planner's (R45). -/
structure PlanningState where
  stepIndex : Nat
  pleatIndex : Nat
  remainder : Nat
  nextMark : Nat
  repeatIndex : Nat
deriving DecidableEq, Repr

/-- A panel context (R41); `startConsumed` says whether its PANEL_START has been consumed (R42). -/
structure Context where
  serial : Serial
  tag : Nat
  slot : Fin 16
  doseMin : Nat
  doseMax : Nat
  baseTemp : Nat
  lagLimit : Nat
  window : Nat
  repeatLen : Nat
  repeatTicks : Nat
  k : Nat
  flags : PanelFlags
  startConsumed : Bool
  planning : Option PlanningState
deriving DecidableEq, Repr

/-- The Fold Planner's own state and the context table (R40, R41, R45). -/
structure Planner where
  cursor : Option Nat
  lastAppended : Option Nat
  nextSerial : Serial
  contexts : List Context
deriving DecidableEq, Repr

/-- The kind of a plan entry with the fields of its kind (R53). -/
inductive EntryKind where
  | panelStart
  | fold (waist hem : StrokeCode)
  | flat (length : Nat) (spliceOk : Bool)
  | panelEnd
deriving DecidableEq, Repr

/-- A Plan Queue entry (R53). -/
structure PlanEntry where
  kind : EntryKind
  position : Nat
  serial : Serial
deriving DecidableEq, Repr

/-! ## Mark Unit (chapter 4) -/

/-- Why a mark measurement is spoiled (R58, R59). -/
inductive SpoilReason where
  | reverse | width
deriving DecidableEq, Repr

/-- An open mark measurement (R58); `spoiled` is the flag with its reason. -/
structure Measurement where
  leadPos : Nat
  headPos : Nat
  width : Nat
  spoiled : Option SpoilReason
deriving DecidableEq, Repr

/-- A mark expectation (R60). -/
structure Expectation where
  position : Nat
  window : Nat
  serial : Serial
  index : Nat
  repeatLen : Nat
deriving DecidableEq, Repr

/-- The last accepted mark (R69). -/
structure AcceptedMark where
  headPos : Nat
  serial : Serial
  tally : Nat
deriving DecidableEq, Repr

/-- The outcomes of R71 other than NONE. -/
inductive MarkOutcome where
  | accepted | stray | discardedWidth | discardedReverse | miss | rejectedK | rejectedRange
deriving DecidableEq, Repr

/-- The last mark outcome with its head position and width (R71). -/
structure OutcomeRecord where
  outcome : MarkOutcome
  headPos : Nat
  width : Nat
deriving DecidableEq, Repr

/-- The Mark Unit (4.1). -/
structure MarkUnit where
  measurement : Option Measurement
  list : List Expectation
  k : Nat
  last : Option AcceptedMark
  misses : Nat
  outcome : Option OutcomeRecord
deriving DecidableEq, Repr

/-! ## Head Sequencer (chapter 5) -/

/-- The blade cycle with the timer of its phase (R79). -/
inductive BladeCycle where
  | idle
  | opening (t : Timer)
  | strike (t : Timer)
  | closing (t : Timer)
deriving DecidableEq, Repr

/-- The fold in cycle (R78). -/
structure FoldInCycle where
  serial : Serial
  position : Nat
deriving DecidableEq, Repr

/-- The pending fold (R75). -/
structure PendingFold where
  serial : Serial
  position : Nat
  waist : StrokeCode
  hem : StrokeCode
  reach : Nat
deriving DecidableEq, Repr

/-- The current region (R76): FLAT over [first, bound). -/
inductive Region where
  | folding
  | flat (first bound : Nat)
deriving DecidableEq, Repr

/-- The head setup (5.7). -/
structure HeadSetup where
  gap : Nat
  dwell : Nat
  table : Vector Nat 16
deriving DecidableEq, Repr

/-- The Head Sequencer (5.1). `bladeGap` is the time since BLADE was last negated, with the gap it was given (R89). -/
structure Head where
  cycle : BladeCycle
  inCycle : Option FoldInCycle
  pendingFold : Option PendingFold
  lastFired : Option Nat
  latchW : StrokeCode
  latchH : StrokeCode
  clamp : Bool
  blade : Bool
  strokeW : StrokeCode
  strokeH : StrokeCode
  bladeGap : Timer
  region : Region
  ceiling : Nat
  overCount : Nat
  armed : Bool
  setup : HeadSetup
deriving DecidableEq, Repr

/-! ## Run Control (chapter 6) -/

/-- The run state (R93). -/
inductive RunState where
  | stopped | running | draining | halted
deriving DecidableEq, Repr

/-- The halt causes (R94). -/
inductive Cause where
  | safe | operator | overrun | reverse | mapFull | rollOut | spliceFail | positionEnd
deriving DecidableEq, Repr

/-- The halt-cause set (R94). -/
structure CauseSet where
  safe : Bool
  operator : Bool
  overrun : Bool
  reverse : Bool
  mapFull : Bool
  rollOut : Bool
  spliceFail : Bool
  positionEnd : Bool
deriving DecidableEq, Repr

/-- Run Control (6.1). The level of SAFE_STOP_n is `State.levels.safeStop`. -/
structure RunControl where
  state : RunState
  causes : CauseSet
  haltEntry : Option (Cause × LineTime)
  lastChange : LineTime
deriving DecidableEq, Repr

/-! ## Web Map and Exit Unit (chapter 7) -/

/-- A segment (R110); it is open while `trailing` is absent. -/
structure Segment where
  serial : Serial
  tag : Nat
  slot : Fin 16
  leading : Nat
  trailing : Option Nat
  doseMin : Nat
  doseMax : Nat
  baseTemp : Nat
  lagLimit : Nat
  dose : Nat
  fired : Nat
  late : Nat
  missed : Nat
  flags : PanelFlags
deriving DecidableEq, Repr

/-- The Web Map: segments oldest first, and the four panel counters (R111, R116). -/
structure WebMap where
  segments : List Segment
  started : BitVec 32
  reported : BitVec 32
  dropped : BitVec 32
  cleared : BitVec 32
deriving DecidableEq, Repr

/-- A report (R123); the verdict is ACCEPT when `accept` is true. -/
structure Report where
  serial : Serial
  tag : Nat
  slot : Fin 16
  accept : Bool
  flags : PanelFlags
  dose : Nat
  fired : Nat
  late : Nat
  missed : Nat
  exitTime : LineTime
deriving DecidableEq, Repr

/-- The Exit Unit (7.1): CUT is asserted while its timer is present, GATE is asserted for ACCEPT. -/
structure ExitUnit where
  reports : List Report
  cut : Option Timer
  gate : Bool
deriving DecidableEq, Repr

/-! ## Heat Unit (chapter 8) -/

/-- A calibration point: period in microseconds, temperature in 0.1 °C (8.2). -/
structure CalPoint where
  period : Nat
  temp : Int
deriving DecidableEq, Repr

/-- A probe (8.1). -/
structure Probe where
  table : Vector CalPoint 8
  lastEdge : Option LineTime
  lastPeriod : Option Nat
  temp : Int
  range : Bool
  stale : Bool
deriving DecidableEq, Repr

/-- The valve phases (R139). -/
inductive ValvePhase where
  | supply | pause | vent | rest
deriving DecidableEq, Repr

/-- The valve period in flight: its start, the V and G it was given (ms), its supply time S (ms) and the moment its
supply ends, in microseconds from its start, which a forced close brings forward (R139, R141). -/
structure ValvePeriod where
  start : LineTime
  vMs : Nat
  gMs : Nat
  supplyMs : Nat
  supplyUs : Nat
deriving DecidableEq, Repr

/-- A zone (R133); its span is [first, bound). -/
structure Zone where
  first : Nat
  bound : Nat
  limit : Int
  requested : Nat
  applied : Nat
  hot : Bool
  phase : ValvePhase
  period : ValvePeriod
deriving DecidableEq, Repr

/-- The Heat Unit (8.1). -/
structure HeatUnit where
  probes : PerZone Probe
  zones : PerZone Zone
  vMs : Nat
  gMs : Nat
  cap : Nat
  hysteresis : Nat
  lastDose : LineTime
deriving DecidableEq, Repr

/-! ## Unwind Unit (chapter 9) -/

/-- The states of a roll record other than EMPTY (R152). -/
inductive RollPhase where
  | loaded | ready | running | spent | check
deriving DecidableEq, Repr

/-- A roll record that is not EMPTY (R152). -/
structure RollRecord where
  phase : RollPhase
  core : Nat
  thickness : Nat
  initial : Nat
  diameter : Nat
  length : Nat
  stale : Bool
  held : Nat
deriving DecidableEq, Repr

/-- An open revolution interval (R156). -/
structure RevInterval where
  n : Nat
  spoiled : Bool
deriving DecidableEq, Repr

/-- Why a change is due (9.4). -/
inductive SpliceReason where
  | reserve | request
deriving DecidableEq, Repr

/-- The splice record with the fields of each state (9.4). -/
inductive Splice where
  | idle
  | due (reason : SpliceReason)
  | planned (reason : SpliceReason) (newSide : Side) (x f : Nat)
  | fired (reason : SpliceReason) (newSide : Side) (x f fa knife : Nat)
  | cutting (reason : SpliceReason) (newSide : Side) (x f fa knife : Nat)
deriving DecidableEq, Repr

/-- The unwind settings (9.8). -/
structure UnwindSettings where
  pathLength : Nat
  fireMargin : Nat
  seamMin : Nat
  knifeDelay : Nat
  pasteDwellMs : Nat
  knifeDwell : Nat
  changeReserve : Nat
  endReserve : Nat
deriving DecidableEq, Repr

/-- The Unwind Unit (9.1). An absent roll record is EMPTY; at most one paster is asserted, so one optional pulse with
its side holds both (R164). -/
structure UnwindUnit where
  rolls : PerSide (Option RollRecord)
  interval : Option RevInterval
  splice : Splice
  seam : Option Nat
  paste : Option (Side × Timer)
  knife : Option Timer
  settings : UnwindSettings
deriving DecidableEq, Repr

/-! ## Links, capture, notices (chapters 10 and 11) -/

/-- Results, refusal codes and link fault codes, in the order of 12.4. -/
inductive ResultCode where
  | granted | unknown | role | length | state | range | slotState | sideState | full | notFound | invalid | noRoll
  | causeActive | linkFull | truncated
deriving DecidableEq, Repr

/-- A queued request (R178). -/
structure QueuedRequest where
  code : Byte
  overLength : Bool
  args : List Byte
deriving DecidableEq, Repr

/-- A waiting response (R180). -/
structure Response where
  code : Byte
  result : ResultCode
  data : List Byte
deriving DecidableEq, Repr

/-- How far a transaction has come (R177 to R180). -/
inductive TransactionPhase where
  /-- It has begun, and its operation is not complete; the status byte as it stood at the begin (R177). -/
  | opening (status : Byte)
  /-- A status poll past byte 0. -/
  | polled
  /-- A fetch past byte 0, with the response that is being shifted out; none when the queue was empty (R180). -/
  | fetching (response : Option Response)
  /-- A request frame is complete and judged (R178), or byte 0 was no operation. -/
  | framed
deriving DecidableEq, Repr

/-- A Link Port (10.1). `awaitDeselect`: after a reset the port waits for xSEL_n negated (R189). `transaction`: the one in
progress. `shifted` is the model's own record of the bytes shifted out on xSDO in the last transaction that has come to a
completion or an end (log 6). -/
structure LinkPort where
  requests : List QueuedRequest
  responses : List Response
  overflow : Bool
  waitCount : Nat
  awaitDeselect : Bool
  transaction : Option TransactionPhase
  shifted : List Byte
deriving DecidableEq, Repr

/-- The capture record (R184). -/
structure CaptureRecord where
  link : Link
  code : Option Byte
  fault : ResultCode
  time : LineTime
deriving DecidableEq, Repr

/-- The Refusal Capture (R184). -/
structure RefusalCapture where
  record : Option CaptureRecord
  count : Nat
deriving DecidableEq, Repr

/-- The kind of the last reset (R186). -/
inductive ResetKind where
  | power | pin
deriving DecidableEq, Repr

/-- The reset-cause record (R186). -/
structure ResetCause where
  kind : ResetKind
  time : LineTime
deriving DecidableEq, Repr

/-- The notice codes in their rank (R190). -/
inductive Notice where
  | safeStop
  | halted | drained | speedHigh | lateFold
  | spliceFailed | rollLow | splicePlanned | spliceDone | seamPassed | diameterStale
  | zoneHot | probeStale | overSet
  | queueEmpty | regLost | reportReady | patternReleased
  | faultCaptured
deriving DecidableEq, Repr

/-- A subscription (R191). SAFETY belongs to every subscription and so has no field. -/
structure ClassSet where
  run : Bool
  roll : Bool
  heat : Bool
  flow : Bool
  link : Bool
deriving DecidableEq, Repr

/-- A link's subscription and its pending set, kept in rank order so that equal sets are equal data (R191, R192). -/
structure NoticeBox where
  subscription : ClassSet
  pendingSet : List Notice
deriving DecidableEq, Repr

/-! ## The whole state -/

/-- The state of the PL36. `inReset` holds while RESET_n is asserted (R198). `levels` are the last accepted input levels;
the feed decoder's reference is `levels.feedA` and `levels.feedB`. `choices` counts the free orders drawn (model's own),
`pending` is the queue of commands from outside (model's own). -/
structure State where
  lineTime : LineTime
  inReset : Bool
  resetCause : ResetCause
  levels : InputLevels
  feed : FeedTracker
  carrier : CarrierTracker
  tracking : TrackingSettings
  slots : Vector Slot 16
  orders : List PanelOrder
  planner : Planner
  plan : List PlanEntry
  marks : MarkUnit
  head : Head
  run : RunControl
  map : WebMap
  exitUnit : ExitUnit
  heat : HeatUnit
  unwind : UnwindUnit
  links : PerLink LinkPort
  starvation : Nat
  capture : RefusalCapture
  notices : PerLink NoticeBox
  choices : Nat
  pending : List Instr
deriving DecidableEq, Repr

/-- What can stop the block with a fault: nothing. Every event of the manual leaves a next state; what it calls a fault
is a capture entry (R184) and what it calls a halt is a run state (R94). No constructor, so none is raised: safe. -/
inductive Fault where
deriving DecidableEq, Repr

/-- Why a command has no meaning in this model. -/
inductive Refusal where
  /-- Raised only by an arm of Machine/Dispatch.lean whose command has no meaning yet (no arm at present). Safe: the
  model stops where the part goes on. -/
  | notModelled (mnemonic : String)
deriving DecidableEq, Repr

/-! ## The state after a reset -/

/-- No input asserted: the levels State.reset is given. DESIGN CHOICE, unsafe (log 10): a reset samples the pins. -/
def InputLevels.quiet : InputLevels :=
  ⟨false, false, false, false, false, false, false, false, false, false, false⟩

/-- No flag. -/
def PanelFlags.none : PanelFlags := ⟨false, false, false, false, false, false, false, false, false⟩

/-- The empty cause set (R93). -/
def CauseSet.none : CauseSet := ⟨false, false, false, false, false, false, false, false⟩

/-- The default tracking settings (1.8, R16). -/
def TrackingSettings.default : TrackingSettings :=
  { feedTick := 10000, markOffset := 5000, markWidthMin := 20, markWidthMax := 400, reverseTolerance := 200,
    standstillMs := 500, exitDistance := 400000, cutDwell := 30000 }

/-- The default head setup (5.7, R89). -/
def HeadSetup.default : HeadSetup :=
  { gap := 2000, dwell := 18000,
    table := #v[0, 2500, 5000, 7500, 10000, 12500, 15000, 17500, 20000, 22500, 25000, 27500, 30000, 32500, 35000, 37500] }

/-- The default calibration table (8.2, R132). -/
def CalPoint.defaultTable : Vector CalPoint 8 :=
  #v[⟨500, 0⟩, ⟨420, 300⟩, ⟨370, 600⟩, ⟨330, 850⟩, ⟨300, 1100⟩, ⟨260, 1235⟩, ⟨230, 1500⟩, ⟨200, 1800⟩]

/-- The default unwind settings (9.8, R171). -/
def UnwindSettings.default : UnwindSettings :=
  { pathLength := 300000, fireMargin := 5000, seamMin := 2000, knifeDelay := 1500, pasteDwellMs := 400,
    knifeDwell := 50000, changeReserve := 30000000, endReserve := 5000000 }

/-- A probe after a reset (R150). -/
def Probe.fresh : Probe :=
  { table := CalPoint.defaultTable, lastEdge := none, lastPeriod := none, temp := 0, range := false, stale := true }

/-- The valve period that a zone begins at the end of a reset: duty 0, so it begins in PAUSE (R139, R150). -/
def ValvePeriod.fresh (time : LineTime) : ValvePeriod :=
  { start := time, vMs := 2000, gMs := 50, supplyMs := 0, supplyUs := 0 }

/-- A zone after a reset, with its default span (8.3, R150). -/
def Zone.fresh (time : LineTime) (first bound : Nat) : Zone :=
  { first := first, bound := bound, limit := 1600, requested := 0, applied := 0, hot := false, phase := .pause,
    period := ValvePeriod.fresh time }

/-- A Link Port after a reset (R176, R189). -/
def LinkPort.fresh : LinkPort :=
  { requests := [], responses := [], overflow := false, waitCount := 0, awaitDeselect := true, transaction := none,
    shifted := [] }

/-- The notices after a reset: default subscriptions, empty pending sets (R191, R192). -/
def NoticeBox.freshAll : PerLink NoticeBox :=
  { line := ⟨⟨true, true, true, true, true⟩, []⟩
    pattern := ⟨⟨false, false, false, true, true⟩, []⟩
    unwind := ⟨⟨false, true, false, false, true⟩, []⟩ }

/-- The state right after a reset that ended at `time` with the given input levels, before SAFE_STOP_n is judged (R105):
the values of the tables 1.1 to 10.1. A power-on reset gives it empty slots, a hard reset the READY slots it keeps. -/
def State.afterReset (time : LineTime) (levels : InputLevels) (slots : Vector Slot 16) (kind : ResetKind) : State :=
  { lineTime := time
    inReset := false
    resetCause := ⟨kind, time⟩
    levels := levels
    feed := { position := 0, direction := .forward, excursion := 0, gateCount := 0, gateStart := time, speed := 0,
              standstill := true, lastTick := time }
    carrier := { position := 0, standstill := true, lastTick := time }
    tracking := TrackingSettings.default
    slots := slots
    orders := []
    planner := { cursor := none, lastAppended := none, nextSerial := 0, contexts := [] }
    plan := []
    marks := { measurement := none, list := [], k := 65536, last := none, misses := 0, outcome := none }
    head := { cycle := .idle, inCycle := none, pendingFold := none, lastFired := none, latchW := 0, latchH := 0,
              clamp := false, blade := false, strokeW := 0, strokeH := 0, bladeGap := ⟨time, 2000⟩,
              region := .folding, ceiling := 4294967295, overCount := 0, armed := true, setup := HeadSetup.default }
    run := { state := .stopped, causes := CauseSet.none, haltEntry := none, lastChange := time }
    map := { segments := [], started := 0, reported := 0, dropped := 0, cleared := 0 }
    exitUnit := { reports := [], cut := none, gate := false }
    heat := { probes := PerZone.all Probe.fresh
              zones := ⟨Zone.fresh time 20000 110000, Zone.fresh time 110000 200000, Zone.fresh time 200000 290000,
                        Zone.fresh time 290000 380000⟩
              vMs := 2000, gMs := 50, cap := 150, hysteresis := 20, lastDose := time }
    unwind := { rolls := ⟨none, none⟩, interval := none, splice := .idle, seam := none, paste := none, knife := none,
                settings := UnwindSettings.default }
    links := ⟨LinkPort.fresh, LinkPort.fresh, LinkPort.fresh⟩
    starvation := 6
    capture := { record := none, count := 0 }
    notices := NoticeBox.freshAll
    choices := 0
    pending := [] }

/-- The machine right after a power-on reset (R186, and the power-on column of every table), with no input asserted
(log 10) and no command waiting. -/
def State.reset : State :=
  State.afterReset 0 InputLevels.quiet (Vector.replicate 16 Slot.empty) .power

end Sys2Proof.Machine
end

