-- ==== Sys2Proof/Machine/Flags.lean ====
section
/-!
DEFINITION. The sets of named bits the manual keeps: the panel flags (R112), the halt-cause set (R94), the notice
classes and pending sets (R190 to R192), and their layouts (12.4).
-/

namespace Sys2Proof.Machine

/-! ## Panel flags (R112) -/

/-- The nine flags of R112. -/
inductive PanelFlag where
  | missedFold | lateFold | abortedFold | seam | underSet | overSet | heatUnknown | regLost | strokeClamped
deriving DecidableEq, Repr

/-- Set a flag; one already set stays set (R112). -/
def PanelFlags.add (f : PanelFlags) : PanelFlag → PanelFlags
  | .missedFold => { f with missedFold := true }
  | .lateFold => { f with lateFold := true }
  | .abortedFold => { f with abortedFold := true }
  | .seam => { f with seam := true }
  | .underSet => { f with underSet := true }
  | .overSet => { f with overSet := true }
  | .heatUnknown => { f with heatUnknown := true }
  | .regLost => { f with regLost := true }
  | .strokeClamped => { f with strokeClamped := true }

/-- No flag is set (R120). -/
def PanelFlags.isEmpty (f : PanelFlags) : Bool := f == PanelFlags.none

/-- The number whose bit i is the i-th Boolean of the list, from bit 0. -/
def bitsOf : List Bool → Nat
  | [] => 0
  | b :: bs => b.toNat + 2 * bitsOf bs

/-- The two flag bytes of 12.4 as a number. -/
def PanelFlags.bits (f : PanelFlags) : Nat :=
  bitsOf [f.missedFold, f.lateFold, f.abortedFold, f.seam, f.underSet, f.overSet, f.heatUnknown, f.regLost,
    f.strokeClamped]

/-! ## Causes (R94) -/

/-- A cause is in the set. -/
def CauseSet.has (c : CauseSet) : Cause → Bool
  | .safe => c.safe
  | .operator => c.operator
  | .overrun => c.overrun
  | .reverse => c.reverse
  | .mapFull => c.mapFull
  | .rollOut => c.rollOut
  | .spliceFail => c.spliceFail
  | .positionEnd => c.positionEnd

/-- Add a cause to the set. -/
def CauseSet.add (c : CauseSet) : Cause → CauseSet
  | .safe => { c with safe := true }
  | .operator => { c with operator := true }
  | .overrun => { c with overrun := true }
  | .reverse => { c with reverse := true }
  | .mapFull => { c with mapFull := true }
  | .rollOut => { c with rollOut := true }
  | .spliceFail => { c with spliceFail := true }
  | .positionEnd => { c with positionEnd := true }

/-- The cause byte of 12.4 as a number. -/
def CauseSet.bits (c : CauseSet) : Nat :=
  bitsOf [c.safe, c.operator, c.overrun, c.reverse, c.mapFull, c.rollOut, c.spliceFail, c.positionEnd]

/-- The place of a cause in the order of R94 and 12.4. -/
def Cause.number : Cause → Nat
  | .safe => 0
  | .operator => 1
  | .overrun => 2
  | .reverse => 3
  | .mapFull => 4
  | .rollOut => 5
  | .spliceFail => 6
  | .positionEnd => 7

/-! ## Notices (R190 to R192) -/

/-- The rank of a code, which is also its number on the links (R190, 12.4). -/
def Notice.rank : Notice → Nat
  | .safeStop => 1
  | .halted => 2
  | .drained => 3
  | .speedHigh => 4
  | .lateFold => 5
  | .spliceFailed => 6
  | .rollLow => 7
  | .splicePlanned => 8
  | .spliceDone => 9
  | .seamPassed => 10
  | .diameterStale => 11
  | .zoneHot => 12
  | .probeStale => 13
  | .overSet => 14
  | .queueEmpty => 15
  | .regLost => 16
  | .reportReady => 17
  | .patternReleased => 18
  | .faultCaptured => 19

/-- A subscription holds the class of a code (R190, R191); SAFETY belongs to every subscription. -/
def ClassSet.holds (c : ClassSet) : Notice → Bool
  | .safeStop => true
  | .halted | .drained | .speedHigh | .lateFold => c.run
  | .spliceFailed | .rollLow | .splicePlanned | .spliceDone | .seamPassed | .diameterStale => c.roll
  | .zoneHot | .probeStale | .overSet => c.heat
  | .queueEmpty | .regLost | .reportReady | .patternReleased => c.flow
  | .faultCaptured => c.link

/-- The class byte of 12.4 as a number, SAFETY always in it (R191). -/
def ClassSet.bits (c : ClassSet) : Nat := bitsOf [true, c.run, c.roll, c.heat, c.flow, c.link]

/-- The subscription a class byte names, SAFETY added whether or not it is named (R194). -/
def ClassSet.ofByte (b : Byte) : ClassSet :=
  ⟨b.getLsbD 1, b.getLsbD 2, b.getLsbD 3, b.getLsbD 4, b.getLsbD 5⟩

/-- Put a code into a pending set kept in rank order; one already there stays as it is (R192). -/
def insertRanked (n : Notice) : List Notice → List Notice
  | [] => [n]
  | m :: ms =>
    if n = m then m :: ms
    else if n.rank < m.rank then n :: m :: ms
    else m :: insertRanked n ms

/-- Deliver a code to one link: it joins the pending set when the link's subscription holds its class (R192). -/
def NoticeBox.deliver (n : Notice) (b : NoticeBox) : NoticeBox :=
  if b.subscription.holds n then { b with pendingSet := insertRanked n b.pendingSet } else b

/-- Raise a notice: it is delivered in the same event to every link subscribed to its class (R192). -/
def raise (n : Notice) (s : State) : State :=
  { s with
    notices :=
      { line := s.notices.line.deliver n
        pattern := s.notices.pattern.deliver n
        unwind := s.notices.unwind.deliver n } }

end Sys2Proof.Machine
end

