-- ==== Sys2Proof/Machine/Ops.lean ====
section
/-!
DEFINITION. The operations that several blocks share: line time, exact arithmetic, the free order of visits, records
made on a panel, slot references, the head's outputs, and adding a halt cause with what it is handed to (R94, R95, R104).
-/

namespace Sys2Proof.Machine

/-! ## Line time (R13, R14) -/

/-- The largest flat or carrier position, 2^40 - 1 (00_scope 5.1). -/
def posMax : Nat := 1099511627775

/-- Line time elapsed since a moment, modulo 2^48 (R14). -/
def elapsed (now start : LineTime) : Nat := (now - start).toNat

/-- A timed operation has reached its duration (R14). -/
def Timer.expired (t : Timer) (now : LineTime) : Bool := t.dur ≤ elapsed now t.start

/-- The line time at which a timed operation ends (R118). -/
def Timer.endTime (t : Timer) : LineTime := t.start + BitVec.ofNat 48 t.dur

/-- A microsecond passes: the Line Time Counter adds 1, wrapping to 0 after 2^48 - 1 (R13). -/
def tick (s : State) : State := { s with lineTime := s.lineTime + 1 }

/-! ## Exact arithmetic -/

/-- Round-half-up of a quotient of naturals (00_scope 5.1): the nearest integer, an exact half towards the larger. -/
def roundHalfUp (a b : Nat) : Nat := (2 * a + b) / (2 * b)

/-- Round-half-up of a quotient of an integer by a natural (00_scope 5.1). -/
def roundHalfUpInt (a : Int) (b : Nat) : Int := (2 * a + b) / (2 * (b : Int))

/-- Count one more, stopping at a bound (R113, R157, R184). -/
def countTo (bound n : Nat) : Nat := if n < bound then n + 1 else n

/-! ## The free order in which blocks take one event (R5, R66, R170) -/

/-- The list in the order that the number picks: each digit of `n`, in the mixed base of the lengths, picks the next. -/
def arrange {α : Type} : Nat → Nat → List α → List α
  | 0, _, l => l
  | fuel + 1, n, l =>
    match l[n % l.length]? with
    | none => l
    | some x => x :: arrange fuel (n / l.length) (l.eraseIdx (n % l.length))

/-- Let each block that an event reaches take it. The manual imposes no order among them (R5), so with two or more the
order is a free value; with one there is none to choose. Log 4. -/
def runVisits (s : State) : List (State → State) → State
  | [] => s
  | [f] => f s
  | fs =>
    (arrange fs.length (Config.freeOrder s.choices).toNat fs).foldl (fun t f => f t)
      { s with choices := s.choices + 1 }

/-! ## Refusals and link faults (R184) -/

/-- A refusal or link fault is counted and, when the capture is empty, recorded with FAULT_CAPTURED raised (R184). -/
def recordFault (l : Link) (code : Option Byte) (fault : ResultCode) (s : State) : State :=
  let count := countTo 65535 s.capture.count
  match s.capture.record with
  | some _ => { s with capture := { s.capture with count := count } }
  | none => raise .faultCaptured { s with capture := { record := some ⟨l, code, fault, s.lineTime⟩, count := count } }

/-! ## Slots and references (R18, R22, R25, R26) -/

/-- The steps a slot holds; none when EMPTY. -/
def Slot.steps : Slot → List PatternStep
  | .empty => []
  | .loading _ st => st
  | .ready _ st _ => st
  | .retiring _ st _ => st

/-- The header of a slot that is not EMPTY. -/
def Slot.header? : Slot → Option Header
  | .empty => none
  | .loading h _ => some h
  | .ready h _ _ => some h
  | .retiring h _ _ => some h

/-- The reference count of a slot; 0 when EMPTY or LOADING (R25). -/
def Slot.refs : Slot → Nat
  | .empty => 0
  | .loading _ _ => 0
  | .ready _ _ n => n
  | .retiring _ _ n => n

/-- One more reference (R25). -/
def Slot.incRef : Slot → Slot
  | .empty => .empty
  | .loading h st => .loading h st
  | .ready h st n => .ready h st (n + 1)
  | .retiring h st n => .retiring h st (n + 1)

/-- One reference fewer; a RETIRING slot whose count falls to 0 becomes EMPTY in the same event (R25, R26). -/
def Slot.decRef : Slot → Slot
  | .empty => .empty
  | .loading h st => .loading h st
  | .ready h st n => .ready h st (n - 1)
  | .retiring h st n => if n ≤ 1 then .empty else .retiring h st (n - 1)

/-- A slot is RETIRING with its last reference (R26). -/
def Slot.onLastRef : Slot → Bool
  | .retiring _ _ n => n ≤ 1
  | _ => false

/-- The sum of the step-list lengths of all slots (R22). -/
def stepsHeld (slots : Vector Slot 16) : Nat := (slots.toList.map (fun sl => sl.steps.length)).sum

/-- The pool's free count: 1,024 less the step records that slots hold (R22). -/
def poolFree (slots : Vector Slot 16) : Nat := 1024 - stepsHeld slots

/-- Add 1 to a slot's reference count (R25). -/
def addRef (i : Fin 16) (s : State) : State := { s with slots := s.slots.set i s.slots[i].incRef }

/-- Subtract 1 from a slot's reference count; a RETIRING slot released by it empties and raises PATTERN_RELEASED (R26). -/
def dropRef (i : Fin 16) (s : State) : State :=
  let t := { s with slots := s.slots.set i s.slots[i].decRef }
  if s.slots[i].onLastRef then raise .patternReleased t else t

/-! ## Records made on a panel (R41, R81, R111) -/

/-- Change the segment that carries a serial; when none does, the record is not made anywhere (R111). -/
def onSegment (serial : Serial) (f : Segment → Segment) (s : State) : State :=
  { s with
    map := { s.map with segments := s.map.segments.map (fun g => if g.serial = serial then f g else g) } }

/-- Set a flag on the segment that carries a serial (R112). -/
def flagSegment (serial : Serial) (f : PanelFlag) (s : State) : State :=
  onSegment serial (fun g => { g with flags := g.flags.add f }) s

/-- Set a flag for a copy: on its context until its PANEL_START has been consumed, from then on on its segment (R41). -/
def flagPanel (serial : Serial) (f : PanelFlag) (s : State) : State :=
  if s.planner.contexts.any (fun c => c.serial = serial && !c.startConsumed) then
    { s with
      planner :=
        { s.planner with
          contexts := s.planner.contexts.map
            (fun c => if c.serial = serial && !c.startConsumed then { c with flags := c.flags.add f } else c) } }
  else flagSegment serial f s

/-- A missed fold: counted, stopping at 65,535, and flagged on the segment with its serial (R81). -/
def missFold (serial : Serial) (s : State) : State :=
  onSegment serial (fun g => { g with missed := countTo 65535 g.missed, flags := g.flags.add .missedFold }) s

/-- The segment that carries a serial. -/
def segmentOf (serial : Serial) (s : State) : Option Segment := s.map.segments.find? (fun g => g.serial = serial)

/-- The open segment: the one without a trailing position (R111). -/
def openSegment (s : State) : Option Segment := s.map.segments.find? (fun g => g.trailing.isNone)

/-! ## The head's outputs (R79, R82, R87) -/

/-- The cycle is IDLE (R79). -/
def BladeCycle.isIdle : BladeCycle → Bool
  | .idle => true
  | _ => false

/-- R79: CLAMP is asserted when the cycle is IDLE, SAFE is not in the set and g has passed since BLADE was negated.
The time since then is counted modulo 2^48 (R14), also once g has passed: 2^48 µs after the negation it counts as not passed for g
again. R79 does not say whether a gap that has passed stays passed: DESIGN CHOICE, log 39. -/
def clampDue (s : State) : Bool :=
  s.head.cycle.isIdle && !s.run.causes.safe && s.head.bladeGap.expired s.lineTime

/-- Assert CLAMP if R79's three conditions hold. -/
def settleClamp (s : State) : State :=
  if clampDue s then { s with head := { s.head with clamp := true } } else s

/-- R82: while the cycle is IDLE and SAFE is not in the set, STROKE_W and STROKE_H present the latch. -/
def presentLatch (s : State) : State :=
  if s.head.cycle.isIdle && !s.run.causes.safe then
    { s with head := { s.head with strokeW := s.head.latchW, strokeH := s.head.latchH } }
  else s

/-- The stroke codes and position of a FOLD entry. -/
def PlanEntry.foldCodes? (e : PlanEntry) : Option (StrokeCode × StrokeCode) :=
  match e.kind with
  | .fold w h => some (w, h)
  | _ => none

/-- The positions of the FOLD entries of a plan, in queue order. -/
def foldPositions (plan : List PlanEntry) : List Nat :=
  (plan.filter (fun e => e.foldCodes?.isSome)).map (·.position)

/-- R82: what the latch takes its codes from: the pending fold, else the first FOLD entry, else what it holds. -/
def latchSource (s : State) : StrokeCode × StrokeCode :=
  match s.head.pendingFold with
  | some p => (p.waist, p.hem)
  | none =>
    match s.plan.findSome? PlanEntry.foldCodes? with
    | some c => c
    | none => (s.head.latchW, s.head.latchH)

/-- R87: the reference position: the pending fold's, else the last fired position, else none. -/
def ceilingReference (h : Head) : List Nat :=
  match h.pendingFold with
  | some p => [p.position]
  | none => h.lastFired.toList

/-- The smallest difference between consecutive positions, a negative one counting as 0; absent with fewer than two. -/
def smallestSpacing : List Nat → Option Nat
  | a :: b :: rest =>
    match smallestSpacing (b :: rest) with
    | none => some (b - a)
    | some m => some (min (b - a) m)
  | _ => none

/-- R87: the speed ceiling for up to nine fold positions and a cycle time Tc = 2g + b. -/
def ceilingOf (positions : List Nat) (setup : HeadSetup) : Nat :=
  match smallestSpacing positions with
  | none => 4294967295
  | some m => min (m * 1000000 / (2 * setup.gap + setup.dwell)) 4294967295

/-- Recompute the speed ceiling (R87). -/
def refreshCeiling (s : State) : State :=
  { s with
    head := { s.head with
      ceiling := ceilingOf (ceilingReference s.head ++ (foldPositions s.plan).take 8) s.head.setup } }

/-- Refresh the stroke latch, the outputs that present it, and the speed ceiling (R82, R87). -/
def refreshHead (s : State) : State :=
  let c := latchSource s
  refreshCeiling (presentLatch { s with head := { s.head with latchW := c.1, latchH := c.2 } })

/-! ## The head when the line stops or halts (R81, R83, R84, R85) -/

/-- Remove the pending fold and count it missed, if there is one. -/
def missPending (s : State) : State :=
  match s.head.pendingFold with
  | none => s
  | some p => missFold p.serial { s with head := { s.head with pendingFold := none } }

/-- Flag the fold in cycle ABORTED_FOLD on its segment (R84, R85). -/
def abortFold (s : State) : State :=
  match s.head.inCycle with
  | none => s
  | some f => flagSegment f.serial .abortedFold s

/-- R84: what an entry into HALTED for a cause other than SAFE does to the fold in cycle and the pending fold. -/
def haltHead (s : State) : State :=
  let gap : Timer := ⟨s.lineTime, s.head.setup.gap⟩
  let t :=
    match s.head.cycle with
    | .opening _ => abortFold { s with head := { s.head with cycle := .closing gap } }
    | .strike _ => abortFold { s with head := { s.head with cycle := .closing gap, blade := false, bladeGap := gap } }
    | .closing _ => s
    | .idle => s
  missPending t

/-- R85: the addition of SAFE negates BLADE, CLAMP and both stroke groups, ends the cycle and misses the pending fold. -/
def safeHead (s : State) : State :=
  let t :=
    match s.head.cycle with
    | .opening _ => abortFold s
    | .strike _ => abortFold s
    | .closing _ => s
    | .idle => s
  missPending
    { t with
      head := { t.head with
        cycle := .idle, inCycle := none, clamp := false, blade := false, strokeW := 0, strokeH := 0
        bladeGap := if s.head.blade then ⟨s.lineTime, s.head.setup.gap⟩ else s.head.bladeGap } }

/-! ## Forced close of a zone (R141) -/

/-- A forced close ends the supply of the period in flight at once and sets the applied duty to 0 for its rest (R141). -/
def Zone.forceClose (now : LineTime) (z : Zone) : Zone :=
  match z.phase with
  | .supply =>
    { z with applied := 0, phase := .pause, period := { z.period with supplyUs := elapsed now z.period.start } }
  | .pause | .vent | .rest => { z with applied := 0 }

/-- R142: the addition of SAFE is a forced close of every zone. -/
def safeHeat (s : State) : State :=
  { s with
    heat := { s.heat with
      zones :=
        { z1 := s.heat.zones.z1.forceClose s.lineTime
          z2 := s.heat.zones.z2.forceClose s.lineTime
          z3 := s.heat.zones.z3.forceClose s.lineTime
          z4 := s.heat.zones.z4.forceClose s.lineTime } } }

/-! ## Rolls and the splice record (R152, R163) -/

/-- The side across the stand. -/
def otherSide : Side → Side
  | .a => .b
  | .b => .a

/-- The record of a side is in a state. -/
def rollIs (p : RollPhase) (r : Option RollRecord) : Bool :=
  match r with
  | none => false
  | some r => r.phase == p

/-- The running side: the side whose record is RUNNING (R152). -/
def runningSide (u : UnwindUnit) : Option Side :=
  if rollIs .running u.rolls.a then some .a
  else if rollIs .running u.rolls.b then some .b
  else none

/-- The running roll's record (R152). -/
def runningRoll (u : UnwindUnit) : Option RollRecord :=
  match runningSide u with
  | none => none
  | some i => u.rolls.get i

/-- R163: a PLANNED record returned to DUE keeps its reason and loses its new side, X and F. -/
def Splice.backToDue : Splice → Splice
  | .planned reason _ _ _ => .due reason
  | .idle => .idle
  | .due reason => .due reason
  | .fired reason side x f fa knife => .fired reason side x f fa knife
  | .cutting reason side x f fa knife => .cutting reason side x f fa knife

/-- The splice record is FIRED or CUTTING. -/
def Splice.inProgress : Splice → Bool
  | .fired .. => true
  | .cutting .. => true
  | _ => false

/-- Put a roll record, if there is one, into a state. -/
def setPhase (p : RollPhase) (r : Option RollRecord) : Option RollRecord :=
  r.map (fun r => { r with phase := p })

/-! ## Adding a cause (R94, R95, R104) -/

/-- The line is RUNNING or DRAINING. -/
def producing (s : State) : Bool := s.run.state == .running || s.run.state == .draining

/-- R95: entry into HALTED, handed to the Feed Tracker, the Head Sequencer (R84, unless the cause is SAFE) and the
Unwind Unit. The planner needs nothing: it reads the run state. -/
def enterHalted (c : Cause) (s : State) : State :=
  let t :=
    { s with
      run := { s.run with state := .halted, haltEntry := some (c, s.lineTime), lastChange := s.lineTime }
      feed := { s.feed with excursion := 0 }
      unwind := { s.unwind with splice := s.unwind.splice.backToDue } }
  if c = .safe then t else haltHead t

/-- R94: a cause not in the set is added, HALTED is raised and the line enters HALTED unless it is there already; a
cause already in the set changes nothing. -/
def addCause (c : Cause) (s : State) : State :=
  if s.run.causes.has c then s
  else
    let t := raise .halted { s with run := { s.run with causes := s.run.causes.add c } }
    if s.run.state = .halted then t else enterHalted c t

/-- R168: the addition of SAFE fails a FIRED or CUTTING splice; otherwise it acts on the splice only through R95. -/
def safeUnwind (s : State) : State :=
  if s.unwind.splice.inProgress then
    let fail (r : Option RollRecord) (side : Side) : Option RollRecord :=
      match s.unwind.splice with
      | .fired _ new _ _ _ _ | .cutting _ new _ _ _ _ =>
        if side = new ∨ runningSide s.unwind = some side then setPhase .check r else r
      | _ => r
    raise .spliceFailed
      (addCause .spliceFail
        { s with
          unwind := { s.unwind with
            paste := none, knife := none, interval := none, splice := .idle
            rolls := ⟨fail s.unwind.rolls.a .a, fail s.unwind.rolls.b .b⟩ } })
  else s

/-- R104: the addition of SAFE, handed at once to the head, the heat and the unwind blocks; SAFE already in the set is
not handed on. -/
def addSafe (s : State) : State :=
  if s.run.causes.safe then s
  else safeUnwind (safeHeat (safeHead (addCause .safe s)))

/-- R104: an assertion of SAFE_STOP_n raises SAFE_STOP and adds SAFE. -/
def assertSafe (s : State) : State := addSafe (raise .safeStop s)

/-! ## Leaving RUNNING and DRAINING (R83, R93, R97, R98) -/

/-- A transition into STOPPED from RUNNING or DRAINING: the pending fold is missed, the cycle runs on (R83), the
excursion is 0 (R6), the last change time is recorded (R93). -/
def enterStopped (s : State) : State :=
  missPending
    { s with
      run := { s.run with state := .stopped, lastChange := s.lineTime }
      feed := { s.feed with excursion := 0 } }

/-- R77, R97: the plan is empty, no copy is being planned and no fold is pending. -/
def drainComplete (s : State) : Bool :=
  s.plan.isEmpty && !s.planner.contexts.any (fun c => c.planning.isSome) && s.head.pendingFold.isNone

/-- R98: a drain completion taken in DRAINING moves the line to STOPPED and raises DRAINED; in any other state the report
has no effect. -/
def reportDrain (s : State) : State :=
  if s.run.state = .draining ∧ drainComplete s = true then raise .drained (enterStopped s) else s

end Sys2Proof.Machine
end

