-- ==== Sys2Proof/Machine/Operands.lean ====
section
/-!
DEFINITION. The bytes of requests and responses (chapter 12: R196, R197, 12.3, 12.4) and the taking of a granted
request: the arbiter's choice (R181), the link's checks (R183), the response and the refusal (R183, R184).
-/

namespace Sys2Proof.Machine

/-! ## Reading argument fields (R196) -/

/-- The number that little-endian bytes spell, the least significant byte first. -/
def leNat : List Byte → Nat
  | [] => 0
  | b :: bs => b.toNat + 256 * leNat bs

/-- The unsigned field of `width` bytes at byte `at_` of the arguments. -/
def field (args : List Byte) (at_ width : Nat) : Nat := leNat ((args.drop at_).take width)

/-- The two-byte field at byte `at_` read as a temperature, in two's complement (R196). -/
def tempField (args : List Byte) (at_ : Nat) : Int := (BitVec.ofNat 16 (field args at_ 2)).toInt

/-- The value lies in a closed range. -/
def inRange (low high x : Nat) : Bool := decide (low ≤ x) && decide (x ≤ high)

/-- A side number: A = 0, B = 1, anything else is out of range (R196). -/
def sideOf (n : Nat) : Option Side :=
  if n = 0 then some .a else if n = 1 then some .b else none

/-- A zone or probe number from 1 to 4. -/
def zoneOf (n : Nat) : Option ZoneId :=
  if n = 1 then some .z1
  else if n = 2 then some .z2
  else if n = 3 then some .z3
  else if n = 4 then some .z4
  else none

/-- A slot number from 0 to 15. -/
def slotOf (n : Nat) : Option (Fin 16) := if h : n < 16 then some ⟨n, h⟩ else none

/-- The step kinds in the numbering of R196. -/
def stepKindOf (n : Nat) : StepKind :=
  if n = 0 then .knife else if n = 1 then .box else if n = 2 then .accordion else .flat

/-- Bits of a number from `at_` upwards, `width` of them. -/
def bitField (x at_ width : Nat) : Nat := x / 2 ^ at_ % 2 ^ width

/-- R196: step `i` of an ADD_STEPS bit string: 59 bits from bit 4 + 59 × i, as carried. -/
def stepAt (bits i : Nat) : PatternStep :=
  let b := 4 + 59 * i
  { kind := stepKindOf (bitField bits b 2)
    pitch := bitField bits (b + 2) 17
    waist := bitField bits (b + 19) 16
    hem := bitField bits (b + 35) 16
    count := bitField bits (b + 51) 8
    spliceOk := bitField bits (b + 19) 1 == 1 }

/-- R196: the argument length of an ADD_STEPS that carries n steps: the whole bytes needed for 4 + 59n bits. -/
def stepsLength (n : Nat) : Nat := (4 + 59 * n + 7) / 8

/-- R196: the number of steps an ADD_STEPS of the given length carries; 0 when no number from 1 to 8 admits it. -/
def stepsCarried (length : Nat) : Nat :=
  ((List.range 9).find? (fun n => n ≠ 0 && stepsLength n == length)).getD 0

/-! ## Writing response fields (R197) -/

/-- A number in little-endian bytes. -/
def le : Nat → Nat → List Byte
  | 0, _ => []
  | w + 1, n => BitVec.ofNat 8 n :: le w (n / 256)

/-- A number field of `w` bytes. What crosses the link when the value does not fit is a free value (log 8). -/
def num (w n : Nat) : List Byte := if n < 256 ^ w then le w n else le w (Config.unstatedField w n).toNat

/-- A single flag or level takes one byte: 1 when set, asserted or yes, else 0 (DESIGN CHOICE, log 7: R197 gives no width for one). -/
def flag (b : Bool) : List Byte := [if b then 1 else 0]

/-- A line time: 6 bytes (R197). -/
def timeBytes (t : LineTime) : List Byte := le 6 t.toNat

/-- A temperature: 2 bytes, two's complement (R196). -/
def tempBytes (t : Int) : List Byte := le 2 (BitVec.ofInt 16 t).toNat

/-- R197: a field that may be absent: a presence byte, then the field, or as many zeros. -/
def optional {α : Type} (width : Nat) (f : α → List Byte) : Option α → List Byte
  | none => 0 :: List.replicate width 0
  | some x => 1 :: f x

/-- R197: a list is preceded by a count byte. -/
def listBytes {α : Type} (f : α → List Byte) (l : List α) : List Byte := num 1 l.length ++ (l.map f).flatten

/-- A flat or carrier position: 5 bytes (R197). -/
def posBytes (n : Nat) : List Byte := num 5 n

/-- The byte of a result, as 12.4. -/
def ResultCode.number : ResultCode → Nat
  | .granted => 0
  | .unknown => 1
  | .role => 2
  | .length => 3
  | .state => 4
  | .range => 5
  | .slotState => 6
  | .sideState => 7
  | .full => 8
  | .notFound => 9
  | .invalid => 10
  | .noRoll => 11
  | .causeActive => 12
  | .linkFull => 13
  | .truncated => 14

/-- R180, R197: a response frame: the length byte, the request code, the result byte and the data. -/
def Response.frame (r : Response) : List Byte :=
  let body := r.code :: BitVec.ofNat 8 r.result.number :: r.data
  BitVec.ofNat 8 body.length :: body

/-! ## Request codes (12.3) -/

/-- The assigned requests of 12.3. -/
inductive RequestCode where
  | run | drain | stop | halt | resume | clearLine | setTracking | setHead | setCalibration | setHeat | setZoneDuty
  | setLinks | openPattern | addSteps | closePattern | discardPattern | queuePanel | cancelPanel | loadRoll | rollReady
  | rollWithdraw | rollAssign | spliceNow | setUnwind | takeReport | readTracking | readPattern | readQueue | readPlan
  | readMarks | readHead | readRun | readMap | readHeat | readUnwind | readStatus | readFault | readTime | subscribe
  | takeNotice
deriving DecidableEq, Repr

/-- The request a code is assigned to, if any (12.3). -/
def requestOf : Nat → Option RequestCode
  | 0x01 => some .run
  | 0x02 => some .drain
  | 0x03 => some .stop
  | 0x04 => some .halt
  | 0x05 => some .resume
  | 0x06 => some .clearLine
  | 0x07 => some .setTracking
  | 0x08 => some .setHead
  | 0x09 => some .setCalibration
  | 0x0A => some .setHeat
  | 0x0B => some .setZoneDuty
  | 0x0C => some .setLinks
  | 0x10 => some .openPattern
  | 0x11 => some .addSteps
  | 0x12 => some .closePattern
  | 0x13 => some .discardPattern
  | 0x14 => some .queuePanel
  | 0x15 => some .cancelPanel
  | 0x18 => some .loadRoll
  | 0x19 => some .rollReady
  | 0x1A => some .rollWithdraw
  | 0x1B => some .rollAssign
  | 0x1C => some .spliceNow
  | 0x1D => some .setUnwind
  | 0x20 => some .takeReport
  | 0x28 => some .readTracking
  | 0x29 => some .readPattern
  | 0x2A => some .readQueue
  | 0x2B => some .readPlan
  | 0x2C => some .readMarks
  | 0x2D => some .readHead
  | 0x2E => some .readRun
  | 0x2F => some .readMap
  | 0x30 => some .readHeat
  | 0x31 => some .readUnwind
  | 0x32 => some .readStatus
  | 0x33 => some .readFault
  | 0x34 => some .readTime
  | 0x35 => some .subscribe
  | 0x36 => some .takeNotice
  | _ => none

/-- R183: the request is accepted on the link. -/
def RequestCode.acceptedOn (c : RequestCode) (l : Link) : Bool :=
  match c with
  | .run | .drain | .stop | .halt | .resume | .clearLine | .setTracking | .setHead | .setCalibration | .setHeat
  | .setZoneDuty | .setLinks => l == .line
  | .openPattern | .addSteps | .closePattern | .discardPattern | .queuePanel | .cancelPanel => l == .pattern
  | .loadRoll | .rollReady | .rollWithdraw | .rollAssign | .spliceNow | .setUnwind => l == .unwind
  | .takeReport => l == .line || l == .pattern
  | .readTracking | .readPattern | .readQueue | .readPlan | .readMarks | .readHead | .readRun | .readMap | .readHeat
  | .readUnwind | .readStatus | .readFault | .readTime | .subscribe | .takeNotice => true

/-- R183, R196, 12.3: the request admits the argument length. -/
def RequestCode.lengthOk (c : RequestCode) (n : Nat) : Bool :=
  match c with
  | .setTracking => n == 20
  | .setHead => n == 37
  | .setCalibration => n == 41
  | .setHeat => n == 40
  | .setZoneDuty => n == 3
  | .setLinks | .closePattern | .discardPattern | .rollReady | .rollWithdraw | .rollAssign | .readQueue | .readPlan
  | .readMarks | .readMap | .readHeat | .subscribe => n == 1
  | .openPattern => n == 20
  | .addSteps => stepsCarried n != 0
  | .queuePanel => n == 7
  | .cancelPanel => n == 4
  | .loadRoll => n == 9
  | .setUnwind => n == 25
  | .readPattern => n == 2
  | .run | .drain | .stop | .halt | .resume | .clearLine | .spliceNow | .takeReport | .readTracking | .readHead
  | .readRun | .readUnwind | .readStatus | .readFault | .readTime | .takeNotice => n == 0

/-! ## The arbiter (R181) -/

/-- Change one Link Port. -/
def onLink (l : Link) (f : LinkPort → LinkPort) (s : State) : State :=
  { s with links := s.links.set l (f (s.links.get l)) }

/-- The fixed order of the arbiter: LINE, UNWIND, PATTERN (R181). -/
def fixedOrder : List Link := [.line, .unwind, .pattern]

/-- R181: the link the arbiter chooses: the first promoted link with a request in the fixed order, else the first with a
request. -/
def grantee (s : State) : Option Link :=
  let waiting := fixedOrder.filter (fun l => !(s.links.get l).requests.isEmpty)
  match waiting.find? (fun l => s.starvation ≤ (s.links.get l).waitCount) with
  | some l => some l
  | none => waiting.head?

/-- A port after a grant to the other link `l`, or to itself, at port `own` (R181): the chosen link loses its front
request and counts from 0; another link with a request counts one more grant. -/
def LinkPort.granted (p : LinkPort) (chosen : Bool) : LinkPort :=
  if chosen then { p with requests := p.requests.tail, waitCount := 0 }
  else if p.requests.isEmpty then p
  else { p with waitCount := p.waitCount + 1 }

/-- R181: the effect of a grant to a link on the three ports. -/
def grant (l : Link) (s : State) : State :=
  { s with
    links :=
      { line := s.links.line.granted (l == .line)
        pattern := s.links.pattern.granted (l == .pattern)
        unwind := s.links.unwind.granted (l == .unwind) } }

/-- R183: the response joins the end of the link's response queue. -/
def respond (l : Link) (code : Byte) (result : ResultCode) (data : List Byte) (s : State) : State :=
  onLink l (fun p => { p with responses := p.responses ++ [⟨code, result, data⟩] }) s

/-- R183, R184: a refusal: the response carries the refusal code, and the refusal is counted and may be captured. -/
def refuse (l : Link) (code : Byte) (why : ResultCode) (s : State) : State :=
  recordFault l (some code) why (respond l code why [] s)

/-! ## Taking a request (R183) -/

/-- What a request's own rule answers: granted, with the state it leaves and its data, or refused. -/
inductive Reply where
  | granted (s : State) (data : List Byte)
  | refused (why : ResultCode)
deriving Repr

/-- Complete a taking: a granted response with its data, or a refusal that leaves everything else as it was (R183). -/
def conclude (l : Link) (code : Byte) (s : State) : Reply → State
  | .granted t data => respond l code .granted data t
  | .refused why => refuse l code why s

/-- R181, R183: the arbiter grants the front request of the link it chooses, when that is the request `c`, and the
Command Processor takes it: the role check, the length check, then the request's own rule. When the arbiter's choice is
another request, or none waits, or a reset is in progress (R198), no such event occurs (log 2). -/
def takeRequest (c : RequestCode) (rule : Link → List Byte → State → Reply) (s : State) : State :=
  if s.inReset then s
  else
    match grantee s with
    | none => s
    | some l =>
      match (s.links.get l).requests with
      | [] => s
      | r :: _ =>
        if requestOf r.code.toNat = some c then
          if !c.acceptedOn l then refuse l r.code .role (grant l s)
          else if r.overLength || !c.lengthOk r.args.length then refuse l r.code .length (grant l s)
          else conclude l r.code (grant l s) (rule l r.args (grant l s))
        else s

/-- R183: an unassigned code is refused UNKNOWN when it is taken. -/
def takeUnassigned (s : State) : State :=
  if s.inReset then s
  else
    match grantee s with
    | none => s
    | some l =>
      match (s.links.get l).requests with
      | [] => s
      | r :: _ =>
        if requestOf r.code.toNat = none then refuse l r.code .unknown (grant l s) else s

end Sys2Proof.Machine
end

