-- ==== Sys2Proof/Machine/Head.lean ====
section
/-!
DEFINITION. The Head Sequencer (chapter 5): consuming the plan (R73 to R77), the blade cycle (R78 to R81), the speed
ceiling's comparison (R88) and the head setup (R89).
-/

namespace Sys2Proof.Machine

/-! ## Consuming the plan (R73 to R77, R42) -/

/-- The first context with a serial. -/
def contextOf (serial : Serial) (s : State) : Option Context := s.planner.contexts.find? (fun c => c.serial = serial)

/-- R42: free the context of a serial: its place is released and its slot reference dropped. -/
def freeContext (serial : Serial) (s : State) : State :=
  match contextOf serial s with
  | none => s
  | some c =>
    dropRef c.slot
      { s with planner := { s.planner with contexts := s.planner.contexts.eraseP (fun c => c.serial = serial) } }

/-- The segment that a PANEL_START opens from its copy's context (R74, R110, R114). -/
def newSegment (c : Context) (leading : Nat) : Segment :=
  { serial := c.serial, tag := c.tag, slot := c.slot, leading := leading, trailing := none, doseMin := c.doseMin,
    doseMax := c.doseMax, baseTemp := c.baseTemp, lagLimit := c.lagLimit, dose := 0, fired := 0, late := 0, missed := 0,
    flags := c.flags }

/-- R74, R42: the consumption of a PANEL_START that finds room: the segment is opened, `started` counted, the region
becomes FOLDING, and the context is freed, or lives on as a started context while its copy is still being planned. -/
def openPanel (serial : Serial) (s : State) : State :=
  match contextOf serial s with
  | none => s
  | some c =>
    let t :=
      { s with
        map := { s.map with
          segments := s.map.segments ++ [newSegment c s.carrier.position]
          started := s.map.started + 1 }
        head := { s.head with region := .folding } }
    if c.planning.isNone then freeContext serial t
    else
      { t with
        planner := { t.planner with
          contexts := t.planner.contexts.map (fun c => if c.serial = serial then { c with startConsumed := true } else c) } }

/-- R78, R80: a fold fires: the outputs take its codes, CLAMP is negated, OPENING begins, and its lag is judged against
the lag limit of the segment that carries its serial. -/
def fireFold (serial : Serial) (position : Nat) (waist hem : StrokeCode) (s : State) : State :=
  let lag := s.feed.position - position
  let t :=
    onSegment serial (fun g => { g with fired := countTo 65535 g.fired })
      { s with
        head := { s.head with
          strokeW := waist, strokeH := hem, clamp := false, inCycle := some ⟨serial, position⟩
          lastFired := some position, pendingFold := none, cycle := .opening ⟨s.lineTime, s.head.setup.gap⟩ } }
  match segmentOf serial s with
  | none => t
  | some g =>
    if g.lagLimit < lag then
      raise .lateFold
        (onSegment serial (fun g => { g with late := countTo 65535 g.late, flags := g.flags.add .lateFold }) t)
    else t

/-- R75: a FOLD reached at the head fires, becomes the pending fold, adds OVERRUN, or is missed. -/
def reachFold (serial : Serial) (position : Nat) (waist hem : StrokeCode) (s : State) : State :=
  let t := { s with head := { s.head with region := .folding } }
  if producing s then
    if s.head.cycle.isIdle then fireFold serial position waist hem t
    else
      match s.head.pendingFold with
      | none =>
        { t with head := { t.head with pendingFold := some ⟨serial, position, waist, hem, s.feed.position⟩ } }
      | some _ => missFold serial (addCause .overrun (missPending t))
  else missFold serial t

/-- R77, R115: a PANEL_END closes the open segment of its serial, the region becomes FOLDING, and in DRAINING the head
reports a complete drain. -/
def closePanel (serial : Serial) (s : State) : State :=
  reportDrain
    (onSegment serial (fun g => if g.trailing.isNone then { g with trailing := some s.carrier.position } else g)
      { s with head := { s.head with region := .folding } })

/-- R73: consume the front entries that the feed position has reached, in queue order, each under the run state in
force, and refresh the latch and the ceiling after every consumption (R82, R73; log 36). A PANEL_START that finds 24 segments
is held and adds MAP_FULL (R74); a refresh that the entries before it call for comes before that attempt (DESIGN CHOICE, log 36).
The fuel is the length of the plan. -/
def consume : Nat → State → State
  | 0, s => s
  | fuel + 1, s =>
    match s.plan with
    | [] => s
    | e :: rest =>
      if s.feed.position < e.position then s
      else
        match e.kind with
        | .panelStart =>
          if s.map.segments.length < 24 then consume fuel (refreshHead (openPanel e.serial { s with plan := rest }))
          else addCause .mapFull s
        | .fold w h => consume fuel (refreshHead (reachFold e.serial e.position w h { s with plan := rest }))
        | .flat len _ =>
          consume fuel
            (refreshHead { s with plan := rest, head := { s.head with region := .flat e.position (e.position + len) } })
        | .panelEnd => consume fuel (refreshHead (closePanel e.serial { s with plan := rest }))

/-- The front entry of the plan has been reached (R73). -/
def headReached (s : State) : Bool :=
  match s.plan with
  | [] => false
  | e :: _ => decide (e.position ≤ s.feed.position)

/-- R73: the head takes an event: it consumes what is reached. The latch is refreshed after every consumption, as R82 says, where
R73 names only the last of the event: the model's reading (DEDUCED, log 36). -/
def headEvent (s : State) : State := consume s.plan.length s

/-! ## The blade cycle's expiries (R79) -/

/-- OPENING_GAP_END can be taken. -/
def openingGapDue (s : State) : Bool :=
  match s.head.cycle with
  | .opening t => t.expired s.lineTime
  | _ => false

/-- DWELL_END can be taken. -/
def dwellDue (s : State) : Bool :=
  match s.head.cycle with
  | .strike t => t.expired s.lineTime
  | _ => false

/-- CLOSING_GAP_END can be taken. -/
def closingGapDue (s : State) : Bool :=
  match s.head.cycle with
  | .closing t => t.expired s.lineTime
  | _ => false

/-- OPENING_GAP_END (R79): BLADE is asserted, the cycle becomes STRIKE, the dwell begins. -/
def execOpeningGapEnd (s : State) : Host.Outcome State Fault Refusal :=
  if s.inReset || !openingGapDue s then .next s
  else .next { s with head := { s.head with blade := true, cycle := .strike ⟨s.lineTime, s.head.setup.dwell⟩ } }

/-- DWELL_END (R79): BLADE is negated, the cycle becomes CLOSING, the closing gap begins. -/
def execDwellEnd (s : State) : Host.Outcome State Fault Refusal :=
  if s.inReset || !dwellDue s then .next s
  else
    .next
      { s with
        head := { s.head with
          blade := false, cycle := .closing ⟨s.lineTime, s.head.setup.gap⟩
          bladeGap := ⟨s.lineTime, s.head.setup.gap⟩ } }

/-- The end of the closing gap (R79, R77): the pending fold fires, and a drain it held back is reported; or the cycle
becomes IDLE, CLAMP is asserted and the stroke groups present the latch. -/
def endClosingGap (s : State) : State :=
  match s.head.pendingFold with
  | some p => reportDrain (refreshHead (fireFold p.serial p.position p.waist p.hem s))
  | none => presentLatch (settleClamp { s with head := { s.head with cycle := .idle, inCycle := none } })

/-- CLOSING_GAP_END (R79). -/
def execClosingGapEnd (s : State) : Host.Outcome State Fault Refusal :=
  if s.inReset || !closingGapDue s then .next s else .next (endClosingGap s)

/-- CLAMP_GAP_EXPIRY can be taken: CLAMP waits only for the gap since BLADE's last negation (R79). -/
def clampGapDue (s : State) : Bool := clampDue s && !s.head.clamp

/-- CLAMP_GAP_EXPIRY (R79): CLAMP is asserted. -/
def execClampGapExpiry (s : State) : Host.Outcome State Fault Refusal :=
  if s.inReset || !clampGapDue s then .next s else .next (settleClamp s)

/-! ## The speed ceiling at a gate end (R88) -/

/-- R88: compare the new feed speed with the ceiling; three gates above it raise SPEED_HIGH once. -/
def judgeSpeed (s : State) : State :=
  if s.head.ceiling < s.feed.speed then
    let count := countTo 3 s.head.overCount
    if count = 3 ∧ s.head.armed = true then
      raise .speedHigh { s with head := { s.head with overCount := count, armed := false } }
    else { s with head := { s.head with overCount := count } }
  else { s with head := { s.head with overCount := 0, armed := true } }

/-! ## SET_HEAD (R89) -/

/-- A list of numbers rises strictly. -/
def strictlyRising : List Nat → Bool
  | a :: b :: rest => decide (a < b) && strictlyRising (b :: rest)
  | _ => true

/-- The head setup a SET_HEAD carries: gap 2 bytes, dwell 3 bytes, sixteen depths of 2 bytes (5.7, R196). -/
def headSetupOf (args : List Byte) : HeadSetup :=
  { gap := field args 0 2
    dwell := field args 2 3
    table := Vector.ofFn (fun i => field args (5 + 2 * i.val) 2) }

/-- The ranges of 5.7 (R89). -/
def HeadSetup.valid (h : HeadSetup) : Bool :=
  inRange 200 20000 h.gap && inRange 1000 100000 h.dwell && h.table.toList.all (fun d => decide (d ≤ 60000)) &&
    strictlyRising h.table.toList

/-- The line is in STOPPED or HALTED. -/
def atRest (s : State) : Bool := s.run.state == .stopped || s.run.state == .halted

/-- The rule of SET_HEAD (R89). -/
def ruleSetHead (_l : Link) (args : List Byte) (s : State) : Reply :=
  if !atRest s then .refused .state
  else if !(headSetupOf args).valid then .refused .range
  else .granted (refreshCeiling { s with head := { s.head with setup := headSetupOf args } }) []

/-- SET_HEAD (R89). -/
def execSetHead (s : State) : Host.Outcome State Fault Refusal := .next (takeRequest .setHead ruleSetHead s)

end Sys2Proof.Machine
end

