-- ==== Sys2Proof/Machine/Heat.lean ====
section
/-!
DEFINITION. The Heat Unit (chapter 8): probes (R128 to R131), calibration (R129, R132), zones and their settings (R133 to
R136), the hot latch (R137, R138), the valve cycle (R139 to R143) and the dose (R144 to R147).
-/

namespace Sys2Proof.Machine

/-! ## Temperatures (R129) -/

/-- R129: the temperature between two table points, on a straight line, rounded half up. -/
def interpolate (p1 p2 : CalPoint) (period : Nat) : Int :=
  p1.temp + roundHalfUpInt ((p2.temp - p1.temp) * ((p1.period : Int) - period)) (p1.period - p2.period)

/-- R129: search the points after `p1`, whose period is above the measured one. -/
def convertAfter (p1 : CalPoint) (period : Nat) : List CalPoint → Int × Bool
  | [] => (p1.temp, true)
  | p2 :: rest =>
    if rest.isEmpty && decide (period ≤ p2.period) then (p2.temp, true)
    else if p2.period ≤ period then (interpolate p1 p2 period, false)
    else convertAfter p2 period rest

/-- R129: the temperature of a period, and the RANGE flag. -/
def convertPeriod (table : List CalPoint) (period : Nat) : Int × Bool :=
  match table with
  | [] => (0, true)
  | p1 :: rest => if p1.period ≤ period then (p1.temp, true) else convertAfter p1 period rest

/-! ## Zones -/

/-- Change one zone. -/
def onZone (z : ZoneId) (f : Zone → Zone) (s : State) : State :=
  { s with heat := { s.heat with zones := s.heat.zones.set z (f (s.heat.zones.get z)) } }

/-- Change one probe. -/
def onProbe (p : ZoneId) (f : Probe → Probe) (s : State) : State :=
  { s with heat := { s.heat with probes := s.heat.probes.set p (f (s.heat.probes.get p)) } }

/-- R133: a zone is enabled when its start is less than its end. -/
def Zone.enabled (z : Zone) : Bool := decide (z.first < z.bound)

/-- SUPPLYz, from the phase (R139). -/
def Zone.supplyOut (z : Zone) : Bool := z.phase == .supply

/-- VENTz, from the phase (R139). -/
def Zone.ventOut (z : Zone) : Bool := z.phase == .vent

/-! ## Hot latch (R137, R138) -/

/-- R137, R138: a zone judges its hot latch on a temperature of its probe. At or above the limit R137 applies, so with a
hysteresis of 0 a reading at the limit does not clear the latch (log 16). -/
def judgeHot (z : ZoneId) (s : State) : State :=
  let zone := s.heat.zones.get z
  let temp := (s.heat.probes.get z).temp
  if zone.limit ≤ temp then
    if zone.hot then s
    else raise .zoneHot (onZone z (fun w => ({ w with hot := true } : Zone).forceClose s.lineTime) s)
  else if temp ≤ zone.limit - s.heat.hysteresis ∧ zone.hot = true then onZone z (fun w => { w with hot := false }) s
  else s

/-! ## Probes (R128, R130) -/

/-- R128, R129: a measured period gives the probe a temperature and clears STALE. -/
def Probe.measured (q : Probe) (period : Nat) (now : LineTime) : Probe :=
  let r := convertPeriod q.table.toList period
  { q with lastEdge := some now, lastPeriod := some period, temp := r.1, range := r.2, stale := false }

/-- The accepted level of PROBEp after a rising edge. -/
def probeLevelHigh (l : InputLevels) : ZoneId → InputLevels
  | .z1 => { l with probe1 := true }
  | .z2 => { l with probe2 := true }
  | .z3 => { l with probe3 := true }
  | .z4 => { l with probe4 := true }

/-- PROBE_RISING_EDGE (R128): arms the measurement, or measures a period and has the zone judge its hot latch. -/
def execProbeRisingEdge (p : ZoneId) (s : State) : Host.Outcome State Fault Refusal :=
  if s.inReset then .next s
  else
    let t := { s with levels := probeLevelHigh s.levels p }
    match (s.heat.probes.get p).lastEdge with
    | none => .next (onProbe p (fun q => { q with lastEdge := some s.lineTime }) t)
    | some e => .next (judgeHot p (onProbe p (fun q => q.measured (elapsed s.lineTime e) s.lineTime) t))

/-- PROBE_STALENESS_EXPIRY can be taken: 250,000 µs since the last edge (R130). -/
def stalenessDue (p : ZoneId) (s : State) : Bool :=
  match (s.heat.probes.get p).lastEdge with
  | none => false
  | some e => decide (250000 ≤ elapsed s.lineTime e)

/-- PROBE_STALENESS_EXPIRY (R130): the measurement is disarmed; at the transition into STALE, PROBE_STALE is raised and the
zone's supply forced closed. -/
def execProbeStalenessExpiry (p : ZoneId) (s : State) : Host.Outcome State Fault Refusal :=
  if s.inReset || !stalenessDue p s then .next s
  else
    let t := onProbe p (fun q => { q with lastEdge := none, stale := true }) s
    if (s.heat.probes.get p).stale then .next t
    else .next (raise .probeStale (onZone p (fun z => z.forceClose s.lineTime) t))

/-! ## The valve cycle (R139, R140) -/

/-- R140: the applied duty that a period start fixes. -/
def appliedDuty (z : ZoneId) (s : State) : Nat :=
  let zone := s.heat.zones.get z
  if (s.heat.probes.get z).stale || zone.hot || s.run.causes.safe || !zone.enabled then 0
  else if s.carrier.standstill then min zone.requested s.heat.cap
  else zone.requested

/-- R139: the supply time S in milliseconds. -/
def supplyTime (duty vMs gMs : Nat) : Nat := min (duty * vMs / 1000) (vMs - 2 * gMs)

/-- R139, R140: a zone begins a valve period with a duty and the V and G in force. -/
def Zone.begin (z : Zone) (duty vMs gMs : Nat) (now : LineTime) : Zone :=
  let supply := supplyTime duty vMs gMs
  { z with
    applied := duty
    phase := if supply = 0 then .pause else .supply
    period := { start := now, vMs := vMs, gMs := gMs, supplyMs := supply, supplyUs := supply * 1000 } }

/-- A boundary of the period in flight, in microseconds from its start, has been reached (R139). -/
def Zone.reached (z : Zone) (bound : Nat) (now : LineTime) : Bool := decide (bound ≤ elapsed now z.period.start)

/-- The boundary that ends the zone's phase, in microseconds from the period start (R139, R141). -/
def Zone.boundary (z : Zone) : Nat :=
  match z.phase with
  | .supply => z.period.supplyUs
  | .pause => z.period.supplyUs + z.period.gMs * 1000
  | .vent => (z.period.vMs - z.period.gMs) * 1000
  | .rest => z.period.vMs * 1000

/-- The zone is in a phase whose boundary has been reached. -/
def valveDue (phase : ValvePhase) (z : ZoneId) (s : State) : Bool :=
  (s.heat.zones.get z).phase == phase && (s.heat.zones.get z).reached (s.heat.zones.get z).boundary s.lineTime

/-- VALVE_PERIOD_START (R139, R140): the end of REST. -/
def execValvePeriodStart (z : ZoneId) (s : State) : Host.Outcome State Fault Refusal :=
  if s.inReset || !valveDue .rest z s then .next s
  else .next (onZone z (fun w => w.begin (appliedDuty z s) s.heat.vMs s.heat.gMs s.lineTime) s)

/-- SUPPLY_END (R139). -/
def execSupplyEnd (z : ZoneId) (s : State) : Host.Outcome State Fault Refusal :=
  if s.inReset || !valveDue .supply z s then .next s
  else .next (onZone z (fun w => { w with phase := .pause }) s)

/-- R139: the end of PAUSE begins VENT, or passes through it when its interval is empty. -/
def Zone.endPause (z : Zone) : Zone :=
  if z.period.supplyUs + z.period.gMs * 1000 < (z.period.vMs - z.period.gMs) * 1000 then { z with phase := .vent }
  else { z with phase := .rest }

/-- PAUSE_END (R139). -/
def execPauseEnd (z : ZoneId) (s : State) : Host.Outcome State Fault Refusal :=
  if s.inReset || !valveDue .pause z s then .next s else .next (onZone z Zone.endPause s)

/-- VENT_END (R139). -/
def execVentEnd (z : ZoneId) (s : State) : Host.Outcome State Fault Refusal :=
  if s.inReset || !valveDue .vent z s then .next s
  else .next (onZone z (fun w => { w with phase := .rest }) s)

/-! ## Dose (R144 to R147) -/

/-- R133: the enabled zone in whose span a trailing distance lies. -/
def zoneAt (h : HeatUnit) (d : Nat) : Option ZoneId :=
  [ZoneId.z1, .z2, .z3, .z4].find?
    (fun z => (h.zones.get z).enabled && decide ((h.zones.get z).first ≤ d) && decide (d < (h.zones.get z).bound))

/-- R145: the dose after a rise by max(0, T - base), never above 16,777,215 (R113). -/
def raisedDose (dose : Nat) (temp : Int) (base : Nat) : Nat := min (dose + (temp - base).toNat) 16777215

/-- R145 to R147: one segment's part in a dose tick, and whether it raises OVER_SET. -/
def doseSegment (h : HeatUnit) (carrier : Nat) (g : Segment) : Segment × Bool :=
  match g.trailing with
  | none => (g, false)
  | some p =>
    match zoneAt h (carrier - p) with
    | none => (g, false)
    | some z =>
      if (h.probes.get z).stale then ({ g with flags := g.flags.add .heatUnknown }, false)
      else
        let dose := raisedDose g.dose (h.probes.get z).temp g.baseTemp
        if g.dose ≤ g.doseMax ∧ g.doseMax < dose ∧ g.flags.overSet = false then
          ({ g with dose := dose, flags := g.flags.add .overSet }, true)
        else ({ g with dose := dose }, false)

/-- DOSE_TICK can be taken: 100,000 µs since the last (R144). -/
def doseDue (s : State) : Bool := decide (100000 ≤ elapsed s.lineTime s.heat.lastDose)

/-- R144: the dose tick visits every closed segment; OVER_SET is raised when one first rises above its dose max. -/
def doseEvent (s : State) : State :=
  let visited := s.map.segments.map (doseSegment s.heat s.carrier.position)
  let t :=
    { s with
      map := { s.map with segments := visited.map (·.1) }
      heat := { s.heat with lastDose := s.lineTime } }
  if visited.any (·.2) then raise .overSet t else t

/-- DOSE_TICK (R144). -/
def execDoseTick (s : State) : Host.Outcome State Fault Refusal :=
  if s.inReset || !doseDue s then .next s else .next (doseEvent s)

/-! ## Requests (R132, R134 to R136) -/

/-- The calibration points a SET_CALIBRATION carries from byte 1: period 3 bytes, temperature 2 (R132, R196). -/
def calTableOf (args : List Byte) : Vector CalPoint 8 :=
  Vector.ofFn (fun i => ⟨field args (1 + 5 * i.val) 3, tempField args (4 + 5 * i.val)⟩)

/-- R132: periods strictly decrease and temperatures strictly increase along the points. -/
def calibrated : List CalPoint → Bool
  | p :: q :: rest => decide (q.period < p.period) && decide (p.temp < q.temp) && calibrated (q :: rest)
  | _ => true

/-- R132: the ranges and the order of a calibration table. -/
def calValid (table : List CalPoint) : Bool :=
  table.all (fun p => inRange 1 250000 p.period && decide (-500 ≤ p.temp) && decide (p.temp ≤ 3000)) && calibrated table

/-- R132: a probe under a new table converts its last period again, unless it is stale or holds none. -/
def Probe.recalibrated (q : Probe) (table : Vector CalPoint 8) : Probe :=
  match q.lastPeriod with
  | none => { q with table := table }
  | some period =>
    if q.stale then { q with table := table }
    else
      let r := convertPeriod table.toList period
      { q with table := table, temp := r.1, range := r.2 }

/-- The probe holds a temperature that a latch may be judged on: one measured since the reset, and not stale (R130, R137;
log 17). -/
def Probe.judgeable (q : Probe) : Bool := q.lastPeriod.isSome && !q.stale

/-- The rule of SET_CALIBRATION (R132). -/
def ruleSetCalibration (_l : Link) (args : List Byte) (s : State) : Reply :=
  if !atRest s then .refused .state
  else
    match zoneOf (field args 0 1) with
    | none => .refused .range
    | some p =>
      if !calValid (calTableOf args).toList then .refused .range
      else
        let t := onProbe p (fun q => q.recalibrated (calTableOf args)) s
        .granted (if (s.heat.probes.get p).judgeable then judgeHot p t else t) []

/-- SET_CALIBRATION (R132). -/
def execSetCalibration (s : State) : Host.Outcome State Fault Refusal :=
  .next (takeRequest .setCalibration ruleSetCalibration s)

/-- What a SET_HEAT carries for one zone: start, end, limit (R134). -/
structure ZoneSetting where
  first : Nat
  bound : Nat
  limit : Int
deriving DecidableEq, Repr

/-- The zone setting at byte `at_` of a SET_HEAT (R134, R196). -/
def zoneSettingAt (args : List Byte) (at_ : Nat) : ZoneSetting :=
  ⟨field args at_ 3, field args (at_ + 3) 3, tempField args (at_ + 6)⟩

/-- The four zone settings a SET_HEAT carries. -/
def zoneSettingsOf (args : List Byte) : PerZone ZoneSetting :=
  ⟨zoneSettingAt args 8, zoneSettingAt args 16, zoneSettingAt args 24, zoneSettingAt args 32⟩

/-- R134: one zone's ranges against the exit distance. -/
def ZoneSetting.valid (z : ZoneSetting) (exitDistance : Nat) : Bool :=
  inRange 1 z.bound z.first && decide (z.bound ≤ exitDistance) && decide (0 ≤ z.limit) && decide (z.limit ≤ 3000)

/-- R134: enabled zones do not start before the end of an enabled zone of lower number. -/
def spansOrdered : List ZoneSetting → Bool
  | [] => true
  | z :: rest =>
    rest.all (fun w => !(decide (z.first < z.bound) && decide (w.first < w.bound)) || decide (z.bound ≤ w.first)) &&
      spansOrdered rest

/-- R134: every check of the fields of a SET_HEAT. -/
def heatValid (args : List Byte) (exitDistance : Nat) : Bool :=
  let v := field args 0 2
  let g := field args 2 2
  let zs := [(zoneSettingsOf args).z1, (zoneSettingsOf args).z2, (zoneSettingsOf args).z3, (zoneSettingsOf args).z4]
  inRange 500 10000 v && inRange 10 500 g && decide (4 * g ≤ v) && inRange 0 1000 (field args 4 2) &&
    inRange 0 500 (field args 6 2) && zs.all (fun z => z.valid exitDistance) && spansOrdered zs

/-- A zone under new settings. -/
def Zone.reset (z : Zone) (n : ZoneSetting) : Zone := { z with first := n.first, bound := n.bound, limit := n.limit }

/-- R135: the settings of a SET_HEAT replace all the old ones. -/
def setHeatSettings (args : List Byte) (s : State) : State :=
  let n := zoneSettingsOf args
  { s with
    heat := { s.heat with
      vMs := field args 0 2, gMs := field args 2 2, cap := field args 4 2, hysteresis := field args 6 2
      zones :=
        { z1 := s.heat.zones.z1.reset n.z1
          z2 := s.heat.zones.z2.reset n.z2
          z3 := s.heat.zones.z3.reset n.z3
          z4 := s.heat.zones.z4.reset n.z4 } } }

/-- R135: a zone whose probe holds a temperature judges its hot latch against the new values. -/
def rejudge (z : ZoneId) (s : State) : State := if (s.heat.probes.get z).judgeable then judgeHot z s else s

/-- The rule of SET_HEAT (R134, R135). -/
def ruleSetHeat (_l : Link) (args : List Byte) (s : State) : Reply :=
  if !atRest s then .refused .state
  else if !heatValid args s.tracking.exitDistance then .refused .range
  else .granted (rejudge .z4 (rejudge .z3 (rejudge .z2 (rejudge .z1 (setHeatSettings args s))))) []

/-- SET_HEAT (R134). -/
def execSetHeat (s : State) : Host.Outcome State Fault Refusal := .next (takeRequest .setHeat ruleSetHeat s)

/-- The rule of SET_ZONE_DUTY (R136): zone 1 byte, duty 2 bytes, stored as at most 1,000. -/
def ruleSetZoneDuty (_l : Link) (args : List Byte) (s : State) : Reply :=
  match zoneOf (field args 0 1) with
  | none => .refused .range
  | some z =>
    let duty := min (field args 1 2) 1000
    .granted (onZone z (fun w => { w with requested := duty }) s) (num 2 duty)

/-- SET_ZONE_DUTY (R136). -/
def execSetZoneDuty (s : State) : Host.Outcome State Fault Refusal := .next (takeRequest .setZoneDuty ruleSetZoneDuty s)

end Sys2Proof.Machine
end

