-- ==== Sys2Proof/Machine/Unwind.lean ====
section
/-!
DEFINITION. The Unwind Unit (chapter 9): roll records (R152 to R155), diameter and length (R156 to R158), the splice
record (R159 to R168), the seam (R169), and its requests.
-/

namespace Sys2Proof.Machine

/-! ## Diameter and remaining length (R157) -/

/-- R157: the remaining length of a roll with core diameter, thickness and diameter. -/
def remainingLength (core thickness diameter : Nat) : Nat :=
  if core < diameter then 355 * (diameter * diameter - core * core) / (452 * thickness) else 0

/-- R157: the candidate diameter of an interval of n feed ticks of q nanometres. -/
def candidateDiameter (n q : Nat) : Nat := roundHalfUp (n * q * 113) 355000

/-- The largest count of a revolution interval (R158). -/
def maxInterval : Nat := 4194303

/-! ## The seam search (R162) -/

/-- The record of the side across from the running side is READY; false when no record is RUNNING. -/
def otherReady (u : UnwindUnit) : Bool :=
  match runningSide u with
  | none => false
  | some i => rollIs .ready (u.rolls.get (otherSide i))

/-- R162: the conditions under which the Unwind Unit searches. -/
def searchAllowed (s : State) : Bool :=
  (match s.unwind.splice with
    | .due _ => true
    | _ => false) && otherReady s.unwind && producing s && s.unwind.seam.isNone

/-- R162: the seam position X that an entry offers, when it qualifies. -/
def seamPosition (u : UnwindSettings) (feed : Nat) (e : PlanEntry) : Option Nat :=
  match e.kind with
  | .flat len ok =>
    if ok = true ∧ u.seamMin ≤ len ∧ feed + u.fireMargin + u.pathLength ≤ e.position + len / 2 then
      some (e.position + len / 2)
    else none
  | _ => none

/-- R162: search the plan for a seam position; the first FLAT entry that qualifies makes the record PLANNED. -/
def trySearch (s : State) : State :=
  if searchAllowed s then
    match s.unwind.splice, runningSide s.unwind, s.plan.findSome? (seamPosition s.unwind.settings s.feed.position) with
    | .due reason, some i, some x =>
      raise .splicePlanned
        { s with
          unwind := { s.unwind with splice := .planned reason (otherSide i) x (x - s.unwind.settings.pathLength) } }
    | _, _, _ => s
  else s

/-! ## When a change is due (R159, R161) -/

/-- R159: the entry into DUE raises ROLL_LOW when the other side's record is not READY, and searches at once. -/
def enterDue (reason : SpliceReason) (s : State) : State :=
  let t := { s with unwind := { s.unwind with splice := .due reason } }
  trySearch (if otherReady t.unwind then t else raise .rollLow t)

/-- R159: while the record is IDLE, a running roll at or below the change reserve makes it DUE. -/
def judgeChange (s : State) : State :=
  match s.unwind.splice, runningRoll s.unwind with
  | .idle, some r => if r.length ≤ s.unwind.settings.changeReserve then enterDue .reserve s else s
  | _, _ => s

/-- R161: a running roll at or below the end reserve, with no splice FIRED or CUTTING, returns a PLANNED splice to DUE and
adds ROLL_OUT. -/
def judgeEnd (s : State) : State :=
  match runningRoll s.unwind with
  | some r =>
    if r.length ≤ s.unwind.settings.endReserve ∧ s.unwind.splice.inProgress = false then
      addCause .rollOut { s with unwind := { s.unwind with splice := s.unwind.splice.backToDue } }
    else s
  | none => s

/-- The running roll is judged against both reserves, the change reserve first (9.4, R172; log 15). -/
def judgeReserves (s : State) : State := judgeEnd (judgeChange s)

/-! ## Firing and the knife (R164, R165) -/

/-- R165: a FIRED splice whose knife position the feed position has reached: KNIFE is asserted, the record is CUTTING. -/
def knifeCheck (s : State) : State :=
  match s.unwind.splice with
  | .fired reason side x f fa knife =>
    if knife ≤ s.feed.position then
      { s with
        unwind := { s.unwind with
          knife := some ⟨s.lineTime, s.unwind.settings.knifeDwell⟩
          splice := .cutting reason side x f fa knife } }
    else s
  | _ => s

/-- R164: the splice fires: the new side's paster is asserted, Fa and the knife position recorded, the seam record
created; a knife delay of 0 is reached in the same event. -/
def fireSplice (reason : SpliceReason) (side : Side) (x f : Nat) (s : State) : State :=
  let fa := s.feed.position
  knifeCheck
    { s with
      unwind := { s.unwind with
        paste := some (side, ⟨s.lineTime, s.unwind.settings.pasteDwellMs * 1000⟩)
        seam := some (fa + s.unwind.settings.pathLength)
        splice := .fired reason side x f fa (fa + s.unwind.settings.knifeDelay) } }

/-- R163: a PLANNED splice whose F the feed position has reached fires in RUNNING or DRAINING, and returns to DUE in
STOPPED or HALTED. -/
def fireCheck (s : State) : State :=
  match s.unwind.splice with
  | .planned reason side x f =>
    if f ≤ s.feed.position then
      if producing s then fireSplice reason side x f s
      else { s with unwind := { s.unwind with splice := .due reason } }
    else s
  | _ => s

/-! ## The seam at the head (R169, R70) -/

/-- R169: the seam is clear when no segment is open or the current region is FLAT and contains it. -/
def seamClear (s : State) (seam : Nat) : Bool :=
  (openSegment s).isNone ||
    (match s.head.region with
      | .flat first bound => decide (first ≤ seam) && decide (seam < bound)
      | .folding => false)

/-- R169, R70: a seam that the feed position has reached is judged and removed, SEAM_PASSED is raised, the Mark Unit sets
k to 65,536 and removes the last accepted mark, and a DUE splice is searched again. -/
def seamCheck (s : State) : State :=
  match s.unwind.seam with
  | none => s
  | some p =>
    if p ≤ s.feed.position then
      let judged :=
        if seamClear s p then s
        else
          match openSegment s with
          | none => s
          | some g => flagSegment g.serial .seam s
      trySearch
        (raise .seamPassed
          { judged with
            unwind := { judged.unwind with seam := none }
            marks := { judged.marks with k := 65536, last := none } })
    else s

/-- The Unwind Unit takes a change of the feed position: the fire position, the knife position and the seam position, as
R5 lists them (log 18). -/
def unwindEvent (s : State) : State := seamCheck (knifeCheck (fireCheck s))

/-- A change of the feed position has brought the Unwind Unit to one of its positions. -/
def unwindReached (s : State) : Bool :=
  (match s.unwind.splice with
    | .planned _ _ _ f => decide (f ≤ s.feed.position)
    | .fired _ _ _ _ _ knife => decide (knife ≤ s.feed.position)
    | _ => false) ||
    (match s.unwind.seam with
      | some p => decide (p ≤ s.feed.position)
      | none => false)

/-- The Unwind Unit takes a shift of the plan: F at or behind the feed position is taken as reached (R67), and a DUE splice
is searched (R162). -/
def unwindShift (s : State) : State := trySearch (fireCheck s)

/-- A shift has something for the Unwind Unit to do. -/
def unwindShiftReached (s : State) : Bool :=
  (match s.unwind.splice with
    | .planned _ _ _ f => decide (f ≤ s.feed.position)
    | _ => false) || searchAllowed s

/-! ## Feed ticks and revolution pulses (R156 to R158) -/

/-- R156: an open interval counts forward ticks and is spoiled by reverse ones. A count of 4,194,304 has passed the largest
and waits for its overflow (log 14). -/
def intervalTick (d : Direction) (s : State) : State :=
  match s.unwind.interval with
  | none => s
  | some i =>
    { s with
      unwind := { s.unwind with
        interval := some
          (match d with
            | .forward => { i with n := if i.n ≤ maxInterval then i.n + 1 else i.n }
            | .reverse => { i with spoiled := true }) } }

/-- Change the running roll's record, if a record is RUNNING. -/
def onRunning (f : RollRecord → RollRecord) (s : State) : State :=
  match runningSide s.unwind with
  | none => s
  | some i => { s with unwind := { s.unwind with rolls := s.unwind.rolls.set i ((s.unwind.rolls.get i).map f) } }

/-- R158: the overflow of the open interval: it closes without a diameter, STALE is set, and DIAMETER_STALE is raised when
it was clear. -/
def overflowInterval (s : State) : State :=
  let wasStale :=
    match runningRoll s.unwind with
    | some r => r.stale
    | none => true
  let t := onRunning (fun r => { r with stale := true }) { s with unwind := { s.unwind with interval := none } }
  if wasStale then t else raise .diameterStale t

/-- R157: a closed interval is valid when it is not spoiled and n is at least 1,000. -/
def RevInterval.valid (i : RevInterval) : Bool := !i.spoiled && decide (1000 ≤ i.n)

/-- R157: the running roll after an interval of that roll has been judged. -/
def RollRecord.judged (i : RevInterval) (q : Nat) (r : RollRecord) : RollRecord :=
  if i.valid then
    let c := candidateDiameter i.n q
    if r.core ≤ c ∧ c ≤ r.diameter then
      { r with stale := false, diameter := c, length := remainingLength r.core r.thickness c }
    else { r with stale := false, held := countTo 255 r.held }
  else { r with held := countTo 255 r.held }

/-- R157: the judged interval gave an accepted diameter. -/
def RollRecord.accepts (i : RevInterval) (q : Nat) (r : RollRecord) : Bool :=
  i.valid && decide (r.core ≤ candidateDiameter i.n q) && decide (candidateDiameter i.n q ≤ r.diameter)

/-- R156, R157: a pulse of the running side opens an interval, or closes, judges and reopens it; an accepted diameter has
the running roll judged against the reserves. An interval whose overflow is due overflows first (R158). -/
def runningPulse (s : State) : State :=
  let opened (t : State) : State := { t with unwind := { t.unwind with interval := some ⟨0, false⟩ } }
  match s.unwind.interval with
  | none => opened s
  | some i =>
    if maxInterval < i.n then opened (overflowInterval s)
    else
      match runningRoll s.unwind with
      | none => opened s
      | some r =>
        let t := opened (onRunning (RollRecord.judged i s.tracking.feedTick) s)
        if r.accepts i s.tracking.feedTick then judgeReserves t else t

/-- The accepted level of REV_A or REV_B after a rising edge. -/
def revHigh (l : InputLevels) : Side → InputLevels
  | .a => { l with revA := true }
  | .b => { l with revB := true }

/-- REVOLUTION_PULSE (R156): a pulse of a side that is not running is ignored. -/
def execRevolutionPulse (side : Side) (s : State) : Host.Outcome State Fault Refusal :=
  if s.inReset then .next s
  else
    let t := { s with levels := revHigh s.levels side }
    if runningSide s.unwind = some side then .next (runningPulse t) else .next t

/-- INTERVAL_OVERFLOW can be taken. Where the interval is closed first, by the completion of a splice, by ROLL_ASSIGN or by SAFE's
failure of a splice, the overflow that was due is dropped, without STALE or DIAMETER_STALE (DESIGN CHOICE, log 14). -/
def overflowDue (s : State) : Bool :=
  match s.unwind.interval with
  | some i => decide (maxInterval < i.n)
  | none => false

/-- INTERVAL_OVERFLOW (R158). -/
def execIntervalOverflow (s : State) : Host.Outcome State Fault Refusal :=
  if s.inReset || !overflowDue s then .next s else .next (overflowInterval s)

/-! ## Paste and knife expiries, completion (R165, R166) -/

/-- The record of the new side at completion: RUNNING, with D from D0, L from D, STALE clear (R166). -/
def RollRecord.tookOver (r : RollRecord) : RollRecord :=
  { r with
    phase := .running, diameter := r.initial, length := remainingLength r.core r.thickness r.initial, stale := false }

/-- R166: a CUTTING splice with the paster and KNIFE both negated completes. -/
def completeCheck (s : State) : State :=
  match s.unwind.splice with
  | .cutting _ side _ _ _ _ =>
    if s.unwind.paste.isNone && s.unwind.knife.isNone then
      let old := s.unwind.rolls.get (otherSide side)
      let old' := if rollIs .running old then setPhase .spent old else old
      let rolls := (s.unwind.rolls.set side ((s.unwind.rolls.get side).map RollRecord.tookOver)).set (otherSide side) old'
      judgeReserves
        (raise .spliceDone
          { s with unwind := { s.unwind with rolls := rolls, interval := none, splice := .idle } })
    else s
  | _ => s

/-- PASTE_DWELL_EXPIRY can be taken. -/
def pasteDue (s : State) : Bool :=
  match s.unwind.paste with
  | some (_, t) => t.expired s.lineTime
  | none => false

/-- KNIFE_DWELL_EXPIRY can be taken. -/
def knifeDue (s : State) : Bool :=
  match s.unwind.knife with
  | some t => t.expired s.lineTime
  | none => false

/-- PASTE_DWELL_EXPIRY (R165, R166). -/
def execPasteDwellExpiry (s : State) : Host.Outcome State Fault Refusal :=
  if s.inReset || !pasteDue s then .next s
  else .next (completeCheck { s with unwind := { s.unwind with paste := none } })

/-- KNIFE_DWELL_EXPIRY (R165, R166). -/
def execKnifeDwellExpiry (s : State) : Host.Outcome State Fault Refusal :=
  if s.inReset || !knifeDue s then .next s
  else .next (completeCheck { s with unwind := { s.unwind with knife := none } })

/-! ## Requests (R153 to R155, R160, R171, R172) -/

/-- Put a side's record in place. -/
def setRoll (side : Side) (r : Option RollRecord) (s : State) : State :=
  { s with unwind := { s.unwind with rolls := s.unwind.rolls.set side r } }

/-- The rule of LOAD_ROLL (R153): side 1 byte, Dc 3, t 2, D0 3. -/
def ruleLoadRoll (_l : Link) (args : List Byte) (s : State) : Reply :=
  match sideOf (field args 0 1) with
  | none => .refused .range
  | some side =>
    let old := s.unwind.rolls.get side
    if !(old.isNone || rollIs .spent old) then .refused .sideState
    else
      let core := field args 1 3
      let thick := field args 4 2
      let d0 := field args 6 3
      if inRange 10000 600000 core && inRange 50 5000 thick && inRange (core + 1) 2000000 d0 then
        let len := remainingLength core thick d0
        .granted
          (setRoll side
            (some { phase := .loaded, core := core, thickness := thick, initial := d0, diameter := d0, length := len,
                    stale := false, held := 0 }) s)
          (num 5 len)
      else .refused .range

/-- LOAD_ROLL (R153). -/
def execLoadRoll (s : State) : Host.Outcome State Fault Refusal := .next (takeRequest .loadRoll ruleLoadRoll s)

/-- The rule of ROLL_READY (R154). The search that follows is made only under the conditions of R162. -/
def ruleRollReady (_l : Link) (args : List Byte) (s : State) : Reply :=
  match sideOf (field args 0 1) with
  | none => .refused .range
  | some side =>
    let old := s.unwind.rolls.get side
    if !rollIs .loaded old then .refused .sideState
    else
      let t := setRoll side (setPhase .ready old) s
      .granted (if (runningSide s.unwind).map otherSide = some side then trySearch t else t) []

/-- ROLL_READY (R154). -/
def execRollReady (s : State) : Host.Outcome State Fault Refusal := .next (takeRequest .rollReady ruleRollReady s)

/-- The new side of a splice record in FIRED or CUTTING. -/
def Splice.joining : Splice → Option Side
  | .fired _ side _ _ _ _ => some side
  | .cutting _ side _ _ _ _ => some side
  | _ => none

/-- The splice record is DUE or PLANNED. -/
def Splice.isWaiting : Splice → Bool
  | .due _ => true
  | .planned .. => true
  | _ => false

/-- The rule of ROLL_WITHDRAW (R154). -/
def ruleRollWithdraw (_l : Link) (args : List Byte) (s : State) : Reply :=
  match sideOf (field args 0 1) with
  | none => .refused .range
  | some side =>
    let old := s.unwind.rolls.get side
    if s.unwind.splice.joining = some side then .refused .state
    else if !rollIs .ready old then .refused .sideState
    else
      let t := setRoll side (setPhase .loaded old) s
      if (runningSide s.unwind).map otherSide = some side ∧ s.unwind.splice.isWaiting = true then
        .granted (raise .rollLow { t with unwind := { t.unwind with splice := t.unwind.splice.backToDue } }) []
      else .granted t []

/-- ROLL_WITHDRAW (R154). -/
def execRollWithdraw (s : State) : Host.Outcome State Fault Refusal :=
  .next (takeRequest .rollWithdraw ruleRollWithdraw s)

/-- The rule of ROLL_ASSIGN (R155). -/
def ruleRollAssign (_l : Link) (args : List Byte) (s : State) : Reply :=
  match sideOf (field args 0 1) with
  | none => .refused .range
  | some side =>
    let old := s.unwind.rolls.get side
    let across := s.unwind.rolls.get (otherSide side)
    if !atRest s || s.unwind.splice.inProgress then .refused .state
    else if !(rollIs .loaded old || rollIs .ready old || rollIs .check old) then .refused .sideState
    else
      let across' := if rollIs .running across || rollIs .check across then setPhase .spent across else across
      .granted
        (judgeReserves
          { s with
            unwind := { s.unwind with
              rolls := (s.unwind.rolls.set side (setPhase .running old)).set (otherSide side) across'
              splice := .idle, interval := none } })
        []

/-- ROLL_ASSIGN (R155). -/
def execRollAssign (s : State) : Host.Outcome State Fault Refusal := .next (takeRequest .rollAssign ruleRollAssign s)

/-- The rule of SPLICE_NOW (R160). -/
def ruleSpliceNow (_l : Link) (_args : List Byte) (s : State) : Reply :=
  if s.unwind.splice ≠ .idle ∨ s.unwind.seam.isSome = true then .refused .state
  else if (runningSide s.unwind).isNone then .refused .noRoll
  else .granted (enterDue .request s) []

/-- SPLICE_NOW (R160). -/
def execSpliceNow (s : State) : Host.Outcome State Fault Refusal := .next (takeRequest .spliceNow ruleSpliceNow s)

/-- The settings a SET_UNWIND carries, in the order of 9.8 (R196). -/
def unwindSettingsOf (args : List Byte) : UnwindSettings :=
  { pathLength := field args 0 3, fireMargin := field args 3 3, seamMin := field args 6 3, knifeDelay := field args 9 3,
    pasteDwellMs := field args 12 2, knifeDwell := field args 14 3, changeReserve := field args 17 4,
    endReserve := field args 21 4 }

/-- The ranges of 9.8 (R171). -/
def UnwindSettings.valid (u : UnwindSettings) : Bool :=
  inRange 1000 4000000 u.pathLength && inRange 0 1000000 u.fireMargin && inRange 2 200000 u.seamMin &&
    inRange 0 200000 u.knifeDelay && inRange 50 5000 u.pasteDwellMs && inRange 1000 500000 u.knifeDwell &&
    inRange 0 1000000000 u.changeReserve && inRange 0 u.changeReserve u.endReserve

/-- R172: the splice record under new settings, before it is judged: PLANNED returns to DUE, and a DUE record for the
reserve returns to IDLE when the running roll is now longer than the change reserve. -/
def Splice.resettled (u : UnwindUnit) : Splice :=
  match u.splice.backToDue, runningRoll u with
  | .due .reserve, some r => if u.settings.changeReserve < r.length then .idle else .due .reserve
  | sp, _ => sp

/-- The rule of SET_UNWIND (R171, R172). -/
def ruleSetUnwind (_l : Link) (args : List Byte) (s : State) : Reply :=
  if !atRest s || s.unwind.splice.inProgress then .refused .state
  else if !(unwindSettingsOf args).valid then .refused .range
  else
    let u := { s.unwind with settings := unwindSettingsOf args }
    .granted (judgeReserves { s with unwind := { u with splice := Splice.resettled u } }) []

/-- SET_UNWIND (R171). -/
def execSetUnwind (s : State) : Host.Outcome State Fault Refusal := .next (takeRequest .setUnwind ruleSetUnwind s)

end Sys2Proof.Machine
end

