-- ==== Sys2Proof/Machine/Marks.lean ====
section
/-!
DEFINITION. The Mark Unit (chapter 4): the measurement (R58, R59), the expectation list and its misses (R60 to R63), the
accept and the shift (R64 to R67), the correction factor (R68, R69).
-/

namespace Sys2Proof.Machine

/-! ## The front of the list (R60 to R63) -/

/-- A head position lies inside an expectation's window (R61). One beyond 2^40 - 1 matches no expectation (R58), so it neither
is admitted nor defers a miss (log 38). -/
def Expectation.admits (e : Expectation) (headPos : Nat) : Bool :=
  decide (headPos ≤ posMax) && decide (e.position ≤ headPos + e.window) && decide (headPos ≤ e.position + e.window)

/-- R60: an expectation of repeat index 0 that becomes the front removes the last accepted mark. -/
def frontOpened (s : State) : State :=
  match s.marks.list with
  | [] => s
  | e :: _ => if e.index = 0 then { s with marks := { s.marks with last := none } } else s

/-- R62: the judgement is deferred while an unspoiled measurement is open whose head position lies in the window. -/
def missDeferred (m : MarkUnit) (e : Expectation) : Bool :=
  match m.measurement with
  | none => false
  | some q => q.spoiled.isNone && e.admits q.headPos

/-- R62: the front expectation is missed. -/
def missDue (s : State) (e : Expectation) : Bool :=
  decide (e.position + e.window < s.feed.position + s.tracking.markOffset) && !missDeferred s.marks e

/-- R63: the tally of the last accepted mark counts a miss; one that would pass 255 removes the mark. -/
def tallyMiss : Option AcceptedMark → Option AcceptedMark
  | none => none
  | some a => if a.tally < 255 then some { a with tally := a.tally + 1 } else none

/-- R63, R62, R64: the front expectation is removed as a miss with an outcome record; with the count at 3 its panel is
flagged REG_LOST and the notice is raised. -/
def takeMiss (e : Expectation) (rest : List Expectation) (outcome : OutcomeRecord) (s : State) : State :=
  let count := countTo 3 s.marks.misses
  let t :=
    { s with
      marks := { s.marks with
        list := rest, misses := count, last := tallyMiss s.marks.last, outcome := some outcome } }
  if count = 3 then raise .regLost (flagPanel e.serial .regLost t) else t

/-- R62: judge the front for a miss, and each next front in the same event. The fuel is the length of the list. -/
def judgeFront : Nat → State → State
  | 0, s => s
  | fuel + 1, s =>
    match s.marks.list with
    | [] => s
    | e :: rest =>
      if missDue s e then judgeFront fuel (frontOpened (takeMiss e rest ⟨.miss, e.position, 0⟩ s)) else s

/-- R62: the Mark Unit judges the front expectation for a miss. -/
def judgeMisses (s : State) : State := judgeFront s.marks.list.length s

/-! ## The measurement (R58, R59) -/

/-- R59: a feed tick at an open measurement; when it sets the spoiled flag, the deferral ends and the front is judged. -/
def markTick (d : Direction) (s : State) : State :=
  match s.marks.measurement with
  | none => s
  | some q =>
    let width := match d with | .forward => q.width + 1 | .reverse => q.width
    let spoiled :=
      match q.spoiled, d with
      | some r, _ => some r
      | none, .reverse => some .reverse
      | none, .forward => if s.tracking.markWidthMax < width then some .width else none
    let t := { s with marks := { s.marks with measurement := some { q with width := width, spoiled := spoiled } } }
    if q.spoiled.isNone && spoiled.isSome then judgeMisses t else t

/-- MARK_LEADING_EDGE (R58): opens the measurement. MARK already asserted gives no such edge. -/
def execMarkLeadingEdge (s : State) : Host.Outcome State Fault Refusal :=
  if s.inReset || s.levels.mark then .next s
  else
    .next
      { s with
        levels := { s.levels with mark := true }
        marks := { s.marks with
          measurement := some
            { leadPos := s.feed.position
              headPos := s.feed.position + s.tracking.markOffset
              width := 0
              spoiled := if s.feed.direction = .reverse then some .reverse else none } } }

/-! ## Accept and shift (R64 to R68) -/

/-- A position moved by e. -/
def shiftPos (e : Int) (n : Nat) : Nat := ((n : Int) + e).toNat

/-- The position moved by e stays in the range of flat positions (R64). -/
def shiftFits (e : Int) (n : Nat) : Bool := decide (0 ≤ (n : Int) + e) && decide ((n : Int) + e ≤ (posMax : Int))

/-- The next mark position of the copy being planned, where there is one. -/
def nextMarks (s : State) : List Nat := s.planner.contexts.filterMap (fun c => c.planning.map (·.nextMark))

/-- X and F of a PLANNED splice. -/
def plannedPositions (sp : Splice) : List Nat :=
  match sp with
  | .planned _ _ x f => [x, f]
  | _ => []

/-- R64, R65: every position that an accept moves, with `rest` the expectations behind the front. -/
def movedPositions (rest : List Expectation) (s : State) : List Nat :=
  s.plan.map (·.position) ++ rest.map (·.position) ++ s.planner.cursor.toList ++ s.planner.lastAppended.toList ++
    nextMarks s ++ plannedPositions s.unwind.splice

/-- R65: X and F of a PLANNED splice move with the plan; any other splice record is not moved. -/
def Splice.shift (e : Int) : Splice → Splice
  | .planned reason side x f => .planned reason side (shiftPos e x) (shiftPos e f)
  | .idle => .idle
  | .due reason => .due reason
  | .fired reason side x f fa knife => .fired reason side x f fa knife
  | .cutting reason side x f fa knife => .cutting reason side x f fa knife

/-- R65, R47: the plan, the expectations behind the front, the cursor, the last appended position, the next mark position
and a PLANNED splice move by e. -/
def shiftPlan (e : Int) (rest : List Expectation) (s : State) : State :=
  { s with
    plan := s.plan.map (fun p => { p with position := shiftPos e p.position })
    marks := { s.marks with list := rest.map (fun x => { x with position := shiftPos e x.position }) }
    planner := { s.planner with
      cursor := s.planner.cursor.map (shiftPos e)
      lastAppended := s.planner.lastAppended.map (shiftPos e)
      contexts := s.planner.contexts.map
        (fun c => { c with planning := c.planning.map (fun p => { p with nextMark := shiftPos e p.nextMark }) }) }
    unwind := { s.unwind with splice := s.unwind.splice.shift e } }

/-- R68: the measured factor, when the last accepted mark carries the expectation's serial. -/
def measuredFactor (last : Option AcceptedMark) (e : Expectation) (headPos q : Nat) : Option Int :=
  match last with
  | none => none
  | some a =>
    if a.serial = e.serial then
      some (roundHalfUpInt (((headPos : Int) - a.headPos) * 65536 * q) (e.repeatLen * 1000 * (a.tally + 1)))
    else none

/-- R64: the measured factor lies in the range of k. -/
def factorFits : Option Int → Bool
  | none => true
  | some k => decide (62259 ≤ k) && decide (k ≤ 68813)

/-- R65: the accept of a mark: the shift, k, the removal of the front, the last accepted mark, the miss count; then the next
front (R60, R62). -/
def acceptMark (q : Measurement) (e : Expectation) (rest : List Expectation) (s : State) : State :=
  let k := match measuredFactor s.marks.last e q.headPos s.tracking.feedTick with
    | none => s.marks.k
    | some k => k.toNat
  let t := shiftPlan ((q.headPos : Int) - e.position) rest s
  judgeMisses
    (frontOpened
      { t with
        marks := { t.marks with
          k := k, last := some ⟨q.headPos, e.serial, 0⟩, misses := 0
          outcome := some ⟨.accepted, q.headPos, q.width⟩ } })

/-- R66, R67: a shift is an event at the Head Sequencer and at the Unwind Unit, in either order. -/
def shiftEvent (s : State) : State :=
  let t := refreshHead s
  runVisits t
    ((if headReached t then [headEvent] else []) ++ (if unwindShiftReached t then [unwindShift] else []))

/-- Record an outcome that changes nothing else (R59, R61). -/
def recordOutcome (o : MarkOutcome) (q : Measurement) (s : State) : State :=
  { s with marks := { s.marks with outcome := some ⟨o, q.headPos, q.width⟩ } }

/-- R59, R61, R64: what becomes of a mark at its trailing edge; `s` has the measurement closed. -/
def judgeMark (q : Measurement) (s : State) : State :=
  if q.spoiled = some .reverse then recordOutcome .discardedReverse q s
  else if q.spoiled = some .width ∨ s.tracking.markWidthMax < q.width then recordOutcome .discardedWidth q s
  else if q.width < s.tracking.markWidthMin then recordOutcome .discardedWidth q s
  else
    match s.marks.list with
    | [] => recordOutcome .stray q s
    | e :: rest =>
      if !e.admits q.headPos then recordOutcome .stray q s
      else if !factorFits (measuredFactor s.marks.last e q.headPos s.tracking.feedTick) then
        frontOpened (takeMiss e rest ⟨.rejectedK, q.headPos, q.width⟩ s)
      else if !(movedPositions rest s).all (shiftFits ((q.headPos : Int) - e.position)) then
        frontOpened (takeMiss e rest ⟨.rejectedRange, q.headPos, q.width⟩ s)
      else shiftEvent (acceptMark q e rest s)

/-- MARK_TRAILING_EDGE (R59, R61 to R68): the measurement closes, the mark is judged, and then the front for a miss (R62). A
trailing edge with the measurement closed has no effect beyond the accepted level. -/
def execMarkTrailingEdge (s : State) : Host.Outcome State Fault Refusal :=
  if s.inReset || !s.levels.mark then .next s
  else
    let t := { s with levels := { s.levels with mark := false }, marks := { s.marks with measurement := none } }
    match s.marks.measurement with
    | none => .next t
    | some q => .next (judgeMisses (judgeMark q t))

end Sys2Proof.Machine
end

