-- ==== Sys2Proof/Machine/Planner.lean ====
section
/-!
DEFINITION. The Fold Planner (chapter 3): when it takes its next event (R44, R46), beginning a copy (R40, R41, R45), fold
takes (R48, R49), stroke codes (R51), expectations (R52), placement and appends (R54, R55).
-/

namespace Sys2Proof.Machine

/-! ## Arithmetic (R48, R49, R51, R52) -/

/-- R48: the base take of a pleat or flat run, in micrometres. -/
def baseTake (st : PatternStep) : Nat :=
  match st.kind with
  | .knife => st.pitch + 2 * max st.waist st.hem
  | .box => st.pitch + 4 * max st.waist st.hem
  | .accordion => 2 * max st.waist st.hem
  | .flat => st.pitch

/-- R49: the numerator N. -/
def takeNumerator (st : PatternStep) (shrink k : Nat) : Nat := baseTake st * (10000 + shrink) * k * 1000

/-- R49: the denominator D. -/
def takeDenominator (q : Nat) : Nat := 10000 * 65536 * q

/-- R49: the take in feed ticks and the new remainder. -/
def takeOf (st : PatternStep) (shrink k q r : Nat) : Nat × Nat :=
  ((takeNumerator st shrink k + r) / takeDenominator q, (takeNumerator st shrink k + r) % takeDenominator q)

/-- R52: the repeat ticks of a registered copy. -/
def repeatTicksOf (repeatLen k q : Nat) : Nat := roundHalfUp (repeatLen * 1000 * k) (q * 65536)

/-- R51: the smallest code whose table depth is not less than a depth; code 15 when there is none. -/
def strokeCode (table : Vector Nat 16) (depth : Nat) : StrokeCode :=
  BitVec.ofNat 4 ((table.toList.findIdx? (fun d => depth ≤ d)).getD 15)

/-- R51: a depth beyond that of code 15. -/
def strokeClamps (table : Vector Nat 16) (depth : Nat) : Bool := decide (table[15] < depth)

/-! ## What the planner would do next (R44, R46) -/

/-- The copy being planned with its planning state (R41). -/
def planningCopy (s : State) : Option (Context × PlanningState) :=
  s.planner.contexts.findSome? (fun c => c.planning.map (fun p => (c, p)))

/-- The repeat length of the copy being planned, or of the copy that would begin next (R44). -/
def nextRepeatLen (s : State) : Option Nat :=
  match planningCopy s with
  | some (c, _) => some c.repeatLen
  | none =>
    match s.orders with
    | [] => none
    | o :: _ => (s.slots[o.slot].header?).map (·.repeatLen)

/-- There is material to plan (R44). -/
def hasMaterial (s : State) : Bool :=
  (planningCopy s).isSome || (!s.orders.isEmpty && decide (s.planner.contexts.length < 8))

/-- R54: an entry stands at the position its kind gives, or one tick beyond the last appended position. -/
def place (last : Option Nat) (pos : Nat) : Nat :=
  match last with
  | none => pos
  | some l => if pos ≤ l then l + 1 else pos

/-- What continues the copy being planned (R46). -/
inductive Piece where
  | expectation
  | fold (st : PatternStep)
  | flat (st : PatternStep)
  | panelEnd
deriving DecidableEq, Repr

/-- R46: the first of the four that applies. -/
def nextPiece (s : State) (c : Context) (p : PlanningState) : Piece :=
  if c.repeatLen ≠ 0 ∧ p.nextMark < s.planner.cursor.getD 0 then .expectation
  else
    match s.slots[c.slot].steps[p.stepIndex]? with
    | none => .panelEnd
    | some st => if st.kind = .flat then .flat st else .fold st

/-- The shrink allowance of the copy's slot (R49). -/
def shrinkOf (s : State) (c : Context) : Nat :=
  match s.slots[c.slot].header? with
  | some h => h.shrink
  | none => 0

/-- The take of the piece's step and the new remainder (R49). -/
def pieceTake (s : State) (c : Context) (p : PlanningState) (st : PatternStep) : Nat × Nat :=
  takeOf st (shrinkOf s c) c.k s.tracking.feedTick p.remainder

/-- R54: the position at which a piece's entry would stand; an expectation makes no plan entry. -/
def piecePosition (s : State) (c : Context) (p : PlanningState) : Piece → Option Nat
  | .expectation => none
  | .fold st => some (place s.planner.lastAppended (s.planner.cursor.getD 0 + (pieceTake s c p st).1))
  | .flat _ => some (place s.planner.lastAppended (s.planner.cursor.getD 0))
  | .panelEnd => some (place s.planner.lastAppended (s.planner.cursor.getD 0))

/-- The planner conditions of R57, in its order. -/
inductive PlannerCondition where
  | planning | planFull | listFull | noMaterial | draining | rangeEnd
deriving DecidableEq, Repr

/-- R46: the next piece's entry would stand beyond the range of flat positions. -/
def waitsAtEnd (s : State) : Bool :=
  match planningCopy s with
  | none => false
  | some (c, p) =>
    match piecePosition s c p (nextPiece s c p) with
    | none => false
    | some pos => decide (posMax < pos)

/-- R44, R57: the first condition that fails, in the order listed, or whether the planner waits at the end of the range. -/
def plannerCondition (s : State) : PlannerCondition :=
  if 128 ≤ s.plan.length then .planFull
  else if (match nextRepeatLen s with
      | some r => r != 0 && decide (16 ≤ s.marks.list.length)
      | none => false) then .listFull
  else if !hasMaterial s then .noMaterial
  else if (planningCopy s).isNone && s.run.state == .draining then .draining
  else if waitsAtEnd s then .rangeEnd
  else .planning

/-- The planner's next event, when it may take it (R44, R46): continuing the copy being planned. -/
def plannerPiece (s : State) : Option (Context × PlanningState × Piece) :=
  if plannerCondition s = .planning then
    match planningCopy s with
    | none => none
    | some (c, p) => some (c, p, nextPiece s c p)
  else none

/-- The planner's next event, when it may take it (R44, R40): beginning a copy of the head entry, whose slot's header is
given. -/
def plannerBegin (s : State) : Option (PanelOrder × Header) :=
  if plannerCondition s = .planning ∧ (planningCopy s).isNone = true then
    match s.orders with
    | [] => none
    | o :: _ => (s.slots[o.slot].header?).map (fun h => (o, h))
  else none

/-! ## Appending (R54, R55) -/

/-- R55: an append to the plan is an event at the head and at the Unwind Unit, in either order. -/
def appendEntry (e : PlanEntry) (s : State) : State :=
  let t :=
    refreshHead
      { s with plan := s.plan ++ [e], planner := { s.planner with lastAppended := some e.position } }
  runVisits t
    ((if e.position ≤ t.feed.position then [headEvent] else []) ++ (if searchAllowed t then [trySearch] else []))

/-- Replace the planning state of the copy being planned. -/
def setPlanning (p : Option PlanningState) (s : State) : State :=
  { s with
    planner := { s.planner with
      contexts := s.planner.contexts.map (fun c => if c.planning.isSome then { c with planning := p } else c) } }

/-- R46: one more pleat or run of a step is planned. -/
def PlanningState.advance (p : PlanningState) (st : PatternStep) (remainder : Nat) : PlanningState :=
  if p.pleatIndex + 1 < st.count then { p with pleatIndex := p.pleatIndex + 1, remainder := remainder }
  else { p with pleatIndex := 0, stepIndex := p.stepIndex + 1, remainder := remainder }

/-! ## The planner's events -/

/-- R41: the context of a copy that begins at `start`. -/
def newContext (o : PanelOrder) (h : Header) (serial : Serial) (k q start : Nat) : Context :=
  { serial := serial, tag := o.tag, slot := o.slot, doseMin := h.doseMin, doseMax := h.doseMax, baseTemp := h.baseTemp,
    lagLimit := h.lagLimit, window := h.window, repeatLen := h.repeatLen
    repeatTicks := if h.repeatLen = 0 then 0 else repeatTicksOf h.repeatLen k q
    k := if h.repeatLen = 0 then 65536 else k
    flags := PanelFlags.none, startConsumed := false
    planning := some { stepIndex := 0, pleatIndex := 0, remainder := 0, nextMark := start, repeatIndex := 0 } }

/-- R40, R45: beginning a copy from the head entry: serial, context, reference, the entry's count or its leaving the queue
(QUEUE_EMPTY, R38), the start position, and the PANEL_START. -/
def beginCopy (o : PanelOrder) (h : Header) (s : State) : State :=
  let serial := s.planner.nextSerial
  let start := match s.planner.cursor with
    | some p => p
    | none => s.feed.position + 1
  let last := decide (o.copies ≤ o.started + 1)
  let rest := s.orders.tail
  let t1 := addRef o.slot s
  let t2 :=
    { t1 with
      orders := if last then rest else { o with started := o.started + 1 } :: rest
      planner := { t1.planner with
        nextSerial := serial + 1, cursor := some start
        contexts := t1.planner.contexts ++ [newContext o h serial s.marks.k s.tracking.feedTick start] } }
  let t3 := if last then dropRef o.slot t2 else t2
  let t4 := if last && rest.isEmpty then raise .queueEmpty t3 else t3
  appendEntry ⟨.panelStart, place s.planner.lastAppended start, serial⟩ t4

/-- PLANNER_BEGIN_COPY (R40). -/
def execPlannerBeginCopy (s : State) : Host.Outcome State Fault Refusal :=
  if s.inReset then .next s
  else
    match plannerBegin s with
    | some (o, h) => .next (beginCopy o h s)
    | none => .next s

/-- R52, R55: append the expectation at the next mark position; one appended to an empty list becomes the front (R60), and
the front is judged (R62). The advance of the next mark position is not bounded by 2^40 - 1 (DESIGN CHOICE, log 35). -/
def appendExpectation (c : Context) (p : PlanningState) (s : State) : State :=
  let e : Expectation := ⟨p.nextMark, c.window, c.serial, p.repeatIndex, c.repeatLen⟩
  let t :=
    setPlanning (some { p with nextMark := p.nextMark + c.repeatTicks, repeatIndex := p.repeatIndex + 1 })
      { s with marks := { s.marks with list := s.marks.list ++ [e] } }
  judgeMisses (if s.marks.list.isEmpty then frontOpened t else t)

/-- PLANNER_APPEND_EXPECTATION (R46, R52). -/
def execPlannerAppendExpectation (s : State) : Host.Outcome State Fault Refusal :=
  if s.inReset then .next s
  else
    match plannerPiece s with
    | some (c, p, .expectation) => .next (appendExpectation c p s)
    | _ => .next s

/-- R46 case 2, R51: append the FOLD of one pleat at the new cursor, with its stroke codes. -/
def appendFold (c : Context) (p : PlanningState) (st : PatternStep) (s : State) : State :=
  let take := pieceTake s c p st
  let cursor := s.planner.cursor.getD 0 + take.1
  let table := s.head.setup.table
  let t :=
    setPlanning (some (p.advance st take.2)) { s with planner := { s.planner with cursor := some cursor } }
  let clamped := strokeClamps table st.waist || strokeClamps table st.hem
  appendEntry
    ⟨.fold (strokeCode table st.waist) (strokeCode table st.hem), place s.planner.lastAppended cursor, c.serial⟩
    (if clamped then flagPanel c.serial .strokeClamped t else t)

/-- PLANNER_APPEND_FOLD (R46). -/
def execPlannerAppendFold (s : State) : Host.Outcome State Fault Refusal :=
  if s.inReset then .next s
  else
    match plannerPiece s with
    | some (c, p, .fold st) => .next (appendFold c p st s)
    | _ => .next s

/-- R46 case 3, R54: append the FLAT of one run, whose length is the run's end less the entry's position. R46 bounds only the
entry: a take that carries the cursor beyond 2^40 - 1 leaves it there, unbounded (DESIGN CHOICE, log 35). -/
def appendFlat (c : Context) (p : PlanningState) (st : PatternStep) (s : State) : State :=
  let take := pieceTake s c p st
  let cursor := s.planner.cursor.getD 0
  let pos := place s.planner.lastAppended cursor
  appendEntry ⟨.flat (cursor + take.1 - pos) st.spliceOk, pos, c.serial⟩
    (setPlanning (some (p.advance st take.2))
      { s with planner := { s.planner with cursor := some (cursor + take.1) } })

/-- PLANNER_APPEND_FLAT (R46). -/
def execPlannerAppendFlat (s : State) : Host.Outcome State Fault Refusal :=
  if s.inReset then .next s
  else
    match plannerPiece s with
    | some (c, p, .flat st) => .next (appendFlat c p st s)
    | _ => .next s

/-- R46 case 4, R42: append the PANEL_END, remove the planning state, and free a started context. -/
def appendPanelEnd (c : Context) (s : State) : State :=
  let t := setPlanning none s
  appendEntry ⟨.panelEnd, place s.planner.lastAppended (s.planner.cursor.getD 0), c.serial⟩
    (if c.startConsumed then freeContext c.serial t else t)

/-- PLANNER_APPEND_PANEL_END (R46). -/
def execPlannerAppendPanelEnd (s : State) : Host.Outcome State Fault Refusal :=
  if s.inReset then .next s
  else
    match plannerPiece s with
    | some (c, _, .panelEnd) => .next (appendPanelEnd c s)
    | _ => .next s

end Sys2Proof.Machine
end

