-- ==== Sys2Proof/Machine/Tracking.lean ====
section
/-!
DEFINITION. Web and carrier tracking (chapter 1): the feed decoder and feed ticks (R1 to R7), the speed gate (R8),
standstill (R9, R12), and the tracking settings (R15, R16).
-/

namespace Sys2Proof.Machine

/-- R1: the place of a channel state in the forward sequence (0,0), (1,0), (1,1), (0,1). -/
def channelPlace (a b : Bool) : Nat :=
  match a, b with
  | false, false => 0
  | true, false => 1
  | true, true => 2
  | false, true => 3

/-- R1: the tick that a new channel state gives against the reference: none when both channels differ or neither does. -/
def decodeTick (refA refB a b : Bool) : Option Direction :=
  if channelPlace a b = (channelPlace refA refB + 1) % 4 then some .forward
  else if channelPlace refA refB = (channelPlace a b + 1) % 4 then some .reverse
  else none

/-- R3, R4: the feed position after a tick: held at both ends of its range. -/
def movePosition (d : Direction) (n : Nat) : Nat :=
  match d with
  | .forward => if n < posMax then n + 1 else n
  | .reverse => n - 1

/-- R2, R3, R6, R9: the Feed Tracker's own account of a tick. -/
def FeedTracker.tick (f : FeedTracker) (d : Direction) (counted : Bool) (now : LineTime) : FeedTracker :=
  { f with
    position := movePosition d f.position
    direction := d
    gateCount := match d with | .forward => f.gateCount + 1 | .reverse => f.gateCount - 1
    standstill := false
    lastTick := now
    excursion :=
      if counted then
        match d with
        | .forward => f.excursion - 1
        | .reverse => f.excursion + 1
      else f.excursion }

/-- R4, R7: the cause that the Feed Tracker adds at a tick, with the state after its own account of it. -/
def feedCause (d : Direction) (counted : Bool) (s : State) : Option Cause :=
  match d with
  | .forward => if s.feed.position = posMax then some .positionEnd else none
  | .reverse => if counted ∧ s.tracking.reverseTolerance < s.feed.excursion then some .reverse else none

/-- R2, R5: a feed tick. The Feed Tracker, the Mark Unit and the Unwind Unit take the tick; the cause it adds and, when the
position changed, the head and the Unwind Unit follow in a free order (logs 4, 23, 24). -/
def feedTick (d : Direction) (s : State) : State :=
  let counted := producing s
  let t1 := { s with feed := s.feed.tick d counted s.lineTime }
  let t2 := intervalTick d (markTick d t1)
  let moved := t1.feed.position != s.feed.position
  let t3 := if moved then judgeMisses t2 else t2
  runVisits t3
    ((match feedCause d counted t1 with
        | some c => [addCause c]
        | none => []) ++
      (if moved && headReached t3 then [headEvent] else []) ++
      (if moved && unwindReached t3 then [unwindEvent] else []))

/-- FEED_ENCODER_CHANGE (R1): the accepted channel state becomes the reference, and gives a tick or none. -/
def execFeedEncoderChange (a b : Bool) (s : State) : Host.Outcome State Fault Refusal :=
  if s.inReset then .next s
  else
    let t := { s with levels := { s.levels with feedA := a, feedB := b } }
    match decodeTick s.levels.feedA s.levels.feedB a b with
    | none => .next t
    | some d => .next (feedTick d t)

/-- SPEED_GATE_END can be taken: 10,000 µs have passed (R8). -/
def speedGateDue (s : State) : Bool := decide (10000 ≤ elapsed s.lineTime s.feed.gateStart)

/-- SPEED_GATE_END (R8, R88). -/
def execSpeedGateEnd (s : State) : Host.Outcome State Fault Refusal :=
  if s.inReset || !speedGateDue s then .next s
  else
    .next
      (judgeSpeed
        { s with
          feed := { s.feed with
            speed := 100 * s.feed.gateCount.toNat, gateCount := 0, gateStart := s.lineTime } })

/-- The standstill time has passed since a moment (R9, R12). -/
def standstillReached (s : State) (since : LineTime) : Bool :=
  decide (s.tracking.standstillMs * 1000 ≤ elapsed s.lineTime since)

/-- FEED_STANDSTILL_EXPIRY can be taken. -/
def feedStandstillDue (s : State) : Bool := !s.feed.standstill && standstillReached s s.feed.lastTick

/-- FEED_STANDSTILL_EXPIRY (R9). -/
def execFeedStandstillExpiry (s : State) : Host.Outcome State Fault Refusal :=
  if s.inReset || !feedStandstillDue s then .next s
  else .next { s with feed := { s.feed with standstill := true } }

/-- CARRIER_STANDSTILL_EXPIRY can be taken. -/
def carrierStandstillDue (s : State) : Bool := !s.carrier.standstill && standstillReached s s.carrier.lastTick

/-- CARRIER_STANDSTILL_EXPIRY (R12). -/
def execCarrierStandstillExpiry (s : State) : Host.Outcome State Fault Refusal :=
  if s.inReset || !carrierStandstillDue s then .next s
  else .next { s with carrier := { s.carrier with standstill := true } }

/-- The settings a SET_TRACKING carries, in the order of 1.8 (R196). -/
def trackingSettingsOf (args : List Byte) : TrackingSettings :=
  { feedTick := field args 0 2, markOffset := field args 2 3, markWidthMin := field args 5 2,
    markWidthMax := field args 7 2, reverseTolerance := field args 9 3, standstillMs := field args 12 2,
    exitDistance := field args 14 3, cutDwell := field args 17 3 }

/-- The ranges of 1.8, with E not less than any zone end (R15). -/
def TrackingSettings.valid (t : TrackingSettings) (zones : PerZone Zone) : Bool :=
  inRange 1000 50000 t.feedTick && inRange 0 200000 t.markOffset && inRange 1 20000 t.markWidthMin &&
    inRange t.markWidthMin 20000 t.markWidthMax && inRange 0 100000 t.reverseTolerance &&
    inRange 100 5000 t.standstillMs && inRange 1000 16000000 t.exitDistance && inRange 1000 500000 t.cutDwell &&
    decide (zones.z1.bound ≤ t.exitDistance) && decide (zones.z2.bound ≤ t.exitDistance) &&
    decide (zones.z3.bound ≤ t.exitDistance) && decide (zones.z4.bound ≤ t.exitDistance)

/-- R15: the plan holds an entry, the list an expectation, or a panel is part way through its planning. -/
def planned (s : State) : Bool := !s.plan.isEmpty || !s.marks.list.isEmpty || (planningCopy s).isSome

/-- R16: a flag that is clear becomes set at once when the time since the last tick already reaches the new value. -/
def settleStandstill (s : State) : State :=
  { s with
    feed := { s.feed with standstill := s.feed.standstill || standstillReached s s.feed.lastTick }
    carrier := { s.carrier with standstill := s.carrier.standstill || standstillReached s s.carrier.lastTick } }

/-- The rule of SET_TRACKING (R15, R16). -/
def ruleSetTracking (_l : Link) (args : List Byte) (s : State) : Reply :=
  if !atRest s then .refused .state
  else if planned s then .refused .state
  else if !(trackingSettingsOf args).valid s.heat.zones then .refused .range
  else .granted (settleStandstill { s with tracking := trackingSettingsOf args }) []

/-- SET_TRACKING (R15). -/
def execSetTracking (s : State) : Host.Outcome State Fault Refusal := .next (takeRequest .setTracking ruleSetTracking s)

end Sys2Proof.Machine
end

