-- ==== Sys2Proof/Machine/WebMap.lean ====
section
/-!
DEFINITION. The Web Map and the Exit Unit (chapter 7): carrier ticks (R10, R11), exits (R117 to R121), the cutter (R118)
and the report queue (R124).
-/

namespace Sys2Proof.Machine

/-- The report made of a segment at its exit (R123). -/
def reportOf (g : Segment) (now : LineTime) : Report :=
  { serial := g.serial, tag := g.tag, slot := g.slot, accept := g.flags.isEmpty, flags := g.flags, dose := g.dose,
    fired := g.fired, late := g.late, missed := g.missed, exitTime := now }

/-- R120: UNDER_SET is set when the dose is below dose min. -/
def Segment.judged (g : Segment) : Segment :=
  if g.dose < g.doseMin then { g with flags := g.flags.add .underSet } else g

/-- R121: offer a report to the queue: appended and counted, with REPORT_READY when the queue was empty, or dropped. -/
def offerReport (r : Report) (s : State) : State :=
  if s.exitUnit.reports.length < 16 then
    let t :=
      { s with
        exitUnit := { s.exitUnit with reports := s.exitUnit.reports ++ [r] }
        map := { s.map with reported := s.map.reported + 1 } }
    if s.exitUnit.reports.isEmpty then raise .reportReady t else t
  else { s with map := { s.map with dropped := s.map.dropped + 1 } }

/-- R118, R120, R121: the exit of the oldest segment: CUT, the verdict and GATE, the report, the removal, and the retry of a
held PANEL_START (R74). -/
def exitSegment (g : Segment) (rest : List Segment) (s : State) : State :=
  let j := g.judged
  let t :=
    offerReport (reportOf j s.lineTime)
      { s with
        exitUnit := { s.exitUnit with cut := some ⟨s.lineTime, s.tracking.cutDwell⟩, gate := j.flags.isEmpty }
        map := { s.map with segments := rest } }
  if headReached t then headEvent t else t

/-- The trailing distance of a closed segment (R115, R117). -/
def trailingDistance (s : State) (g : Segment) : Option Nat := g.trailing.map (fun p => s.carrier.position - p)

/-- R117: the oldest segment is closed and its trailing distance has reached E. -/
def exitDue (s : State) (g : Segment) : Bool :=
  match trailingDistance s g with
  | none => false
  | some d => decide (s.tracking.exitDistance ≤ d)

/-- R117: judge the oldest segment, and each next oldest in the same event. The fuel is the number of segments and of plan entries:
a removal may let the head open a segment from the plan (R74). -/
def judgeExits : Nat → State → State
  | 0, s => s
  | fuel + 1, s =>
    match s.map.segments with
    | [] => s
    | g :: rest => if exitDue s g then judgeExits fuel (exitSegment g rest s) else s

/-- R10, R11: a carrier tick: the position rises, held at the end of its range, standstill is cleared, the end of the range
adds POSITION_END, and a changed position has the Exit Unit judge the oldest segment. -/
def carrierTickEvent (s : State) : State :=
  let pos := if s.carrier.position < posMax then s.carrier.position + 1 else s.carrier.position
  let t1 := { s with carrier := { position := pos, standstill := false, lastTick := s.lineTime } }
  let t2 := if pos = posMax then addCause .positionEnd t1 else t1
  if s.carrier.position < posMax then judgeExits (t2.map.segments.length + t2.plan.length) t2 else t2

/-- CARRIER_TICK (R10). -/
def execCarrierTick (s : State) : Host.Outcome State Fault Refusal :=
  if s.inReset then .next s
  else .next (carrierTickEvent { s with levels := { s.levels with carr := true } })

/-- CUT_DWELL_END can be taken: the line time has reached the end time (R118). -/
def cutDue (s : State) : Bool :=
  match s.exitUnit.cut with
  | some t => t.expired s.lineTime
  | none => false

/-- CUT_DWELL_END (R118). -/
def execCutDwellEnd (s : State) : Host.Outcome State Fault Refusal :=
  if s.inReset || !cutDue s then .next s
  else .next { s with exitUnit := { s.exitUnit with cut := none } }

/-- A report as it crosses the link: 25 bytes (12.5). -/
def Report.bytes (r : Report) : List Byte :=
  le 2 r.serial.toNat ++ num 4 r.tag ++ num 1 r.slot.val ++ [if r.accept then 0 else 1] ++ num 2 r.flags.bits ++
    num 3 r.dose ++ num 2 r.fired ++ num 2 r.late ++ num 2 r.missed ++ timeBytes r.exitTime

/-- The rule of TAKE_REPORT (R124, R197): the number of reports left, then the report with its presence byte; NONE is a
count of 0 and a presence byte of 0 (log 7). -/
def ruleTakeReport (_l : Link) (_args : List Byte) (s : State) : Reply :=
  match s.exitUnit.reports with
  | [] => .granted s [0, 0]
  | r :: rest =>
    .granted { s with exitUnit := { s.exitUnit with reports := rest } } (num 1 rest.length ++ 1 :: r.bytes)

/-- TAKE_REPORT (R124). -/
def execTakeReport (s : State) : Host.Outcome State Fault Refusal := .next (takeRequest .takeReport ruleTakeReport s)

end Sys2Proof.Machine
end

