-- ==== Sys2Proof/Machine/Idle.lean ====
section
/-!
DEFINITION. What the part does of itself when no command waits: the events of its own that can be taken now (expiries of
timed operations, the planner's next event, the arbiter's grant), by the guards of their meanings. Logs 1 and 5.
-/

namespace Sys2Proof.Machine

/-- The command of an assigned request (12.3). -/
def RequestCode.command : RequestCode → Instr
  | .run => .run
  | .drain => .drain
  | .stop => .stop
  | .halt => .halt
  | .resume => .resume
  | .clearLine => .clearLine
  | .setTracking => .setTracking
  | .setHead => .setHead
  | .setCalibration => .setCalibration
  | .setHeat => .setHeat
  | .setZoneDuty => .setZoneDuty
  | .setLinks => .setLinks
  | .openPattern => .openPattern
  | .addSteps => .addSteps
  | .closePattern => .closePattern
  | .discardPattern => .discardPattern
  | .queuePanel => .queuePanel
  | .cancelPanel => .cancelPanel
  | .loadRoll => .loadRoll
  | .rollReady => .rollReady
  | .rollWithdraw => .rollWithdraw
  | .rollAssign => .rollAssign
  | .spliceNow => .spliceNow
  | .setUnwind => .setUnwind
  | .takeReport => .takeReport
  | .readTracking => .readTracking
  | .readPattern => .readPattern
  | .readQueue => .readQueue
  | .readPlan => .readPlan
  | .readMarks => .readMarks
  | .readHead => .readHead
  | .readRun => .readRun
  | .readMap => .readMap
  | .readHeat => .readHeat
  | .readUnwind => .readUnwind
  | .readStatus => .readStatus
  | .readFault => .readFault
  | .readTime => .readTime
  | .subscribe => .subscribe
  | .takeNotice => .takeNotice

/-- The command of a request code, assigned or not (R183). -/
def commandOfCode (code : Byte) : Instr :=
  match requestOf code.toNat with
  | some c => c.command
  | none => .unassignedRequestCode

/-- R181: a grant is taken whenever a request queue holds a request. -/
def grantEvents (s : State) : List Instr :=
  match grantee s with
  | none => []
  | some l =>
    match (s.links.get l).requests with
    | [] => []
    | r :: _ => [commandOfCode r.code]

/-- R44, R46: the planner's next event, if it may take one. -/
def plannerEvents (s : State) : List Instr :=
  match plannerBegin s with
  | some _ => [.plannerBeginCopy]
  | none =>
    match plannerPiece s with
    | some (_, _, .expectation) => [.plannerAppendExpectation]
    | some (_, _, .fold _) => [.plannerAppendFold]
    | some (_, _, .flat _) => [.plannerAppendFlat]
    | some (_, _, .panelEnd) => [.plannerAppendPanelEnd]
    | none => []

/-- The event, if its guard holds. -/
def dueEvent (guard : Bool) (i : Instr) : List Instr := if guard then [i] else []

/-- The expiries of a zone and its probe that can be taken. -/
def zoneEvents (s : State) (z : ZoneId) : List Instr :=
  dueEvent (stalenessDue z s) (.probeStalenessExpiry z) ++ dueEvent (valveDue .rest z s) (.valvePeriodStart z) ++
    dueEvent (valveDue .supply z s) (.supplyEnd z) ++ dueEvent (valveDue .pause z s) (.pauseEnd z) ++
    dueEvent (valveDue .vent z s) (.ventEnd z)

/-- The part's own events that can be taken now; none during a reset (R198). -/
def internalEvents (s : State) : List Instr :=
  if s.inReset then []
  else
    dueEvent (speedGateDue s) .speedGateEnd ++ dueEvent (feedStandstillDue s) .feedStandstillExpiry ++
      dueEvent (carrierStandstillDue s) .carrierStandstillExpiry ++ dueEvent (openingGapDue s) .openingGapEnd ++
      dueEvent (dwellDue s) .dwellEnd ++ dueEvent (closingGapDue s) .closingGapEnd ++
      dueEvent (clampGapDue s) .clampGapExpiry ++ dueEvent (cutDue s) .cutDwellEnd ++ zoneEvents s .z1 ++
      zoneEvents s .z2 ++ zoneEvents s .z3 ++ zoneEvents s .z4 ++ dueEvent (doseDue s) .doseTick ++
      dueEvent (overflowDue s) .intervalOverflow ++ dueEvent (pasteDue s) .pasteDwellExpiry ++
      dueEvent (knifeDue s) .knifeDwellExpiry ++ plannerEvents s ++ grantEvents s

/-- The event that the part takes of itself, with the state in which it takes it: the only one, or, with several due at once,
one picked by a free choice (R9, R14, R86). -/
def ownEvent (s : State) : Option (Instr × State) :=
  match internalEvents s with
  | [] => none
  | [e] => some (e, s)
  | e :: es =>
    some
      (((e :: es)[(Config.freeOrder s.choices).toNat % (es.length + 1)]?).getD e, { s with choices := s.choices + 1 })

end Sys2Proof.Machine
end

