-- ==== Sys2Proof/Machine/Links.lean ====
section
/-!
DEFINITION. The Link Ports (chapter 10: R176 to R180, R189), the requests of the links themselves (R184, R185, R188) and
the notices' requests and attention lines (chapter 11: R193 to R195).
-/

namespace Sys2Proof.Machine

/-! ## Credits, status byte, attention line (R176, R177, R195) -/

/-- R176: the credits free: 4 less the requests queued and the responses waiting. -/
def LinkPort.credits (p : LinkPort) : Nat := 4 - (p.requests.length + p.responses.length)

/-- R177, 12.1: the status byte of a link. -/
def statusByte (p : LinkPort) (b : NoticeBox) : Byte :=
  BitVec.ofNat 8
    (p.responses.length + 8 * p.credits + 64 * (!b.pendingSet.isEmpty).toNat + 128 * p.overflow.toNat)

/-- R195: xATN_n is asserted while a response waits or a code is pending. -/
def attention (s : State) (l : Link) : Bool :=
  !(s.links.get l).responses.isEmpty || !(s.notices.get l).pendingSet.isEmpty

/-- The status byte that a link shifts out in a transaction taken now. -/
def statusOf (s : State) (l : Link) : Byte := statusByte (s.links.get l) (s.notices.get l)

/-- No transaction begins on the link: a reset is in progress (R198), or the port waits for xSEL_n negated (R189). -/
def transactionBarred (s : State) (l : Link) : Bool := s.inReset || (s.links.get l).awaitDeselect

/-! ## Transactions (R177 to R180) -/

/-- The transaction in progress on the link; none while the port begins none. -/
def transactionOf (s : State) (l : Link) : Option TransactionPhase :=
  if transactionBarred s l then none else (s.links.get l).transaction

/-- R177: a transaction begins: the status byte of this moment is the one it shifts out. xSEL_n asserted within a transaction
is no begin of another (log 2). -/
def beginTransaction (l : Link) (s : State) : State :=
  if transactionBarred s l || (s.links.get l).transaction.isSome then s
  else onLink l (fun p => { p with transaction := some (.opening (statusOf s l)) }) s

/-- R177: what goes out while `n` bytes come in and no response frame does: the status byte, then 0x00. -/
def statusThenZeros (status : Byte) (n : Nat) : List Byte := (status :: List.replicate (n - 1) 0).take n

/-- The operation of the transaction is complete with its `n`-th byte. -/
def completeOperation (l : Link) (phase : TransactionPhase) (status : Byte) (n : Nat) (s : State) : State :=
  onLink l (fun p => { p with transaction := some phase, shifted := statusThenZeros status n }) s

/-- The transaction ends, having shifted out these bytes since the completion of its operation. -/
def endTransaction (l : Link) (out : List Byte) (s : State) : State :=
  onLink l (fun p => { p with transaction := none, shifted := p.shifted ++ out }) s

/-- STATUS_POLL (R177): with byte 0 the status byte of the begin has gone out and the overflow flag is cleared; what follows is
ignored until the end, and 0x00 goes out. A moment that is not the transaction's next is no event (log 2). -/
def execStatusPoll (poll : Poll) (s : State) : Host.Outcome State Fault Refusal :=
  let l := poll.link
  match poll.moment, transactionOf s l with
  | .begins, _ => .next (beginTransaction l s)
  | .completes bytes, some (.opening status) =>
    if bytes = [0x00#8] then
      .next (onLink l (fun p => { p with overflow := false }) (completeOperation l .polled status 1 s))
    else .next s
  | .ends clocked, some .polled => .next (endTransaction l (List.replicate clocked 0) s)
  | .completes _, _ => .next s
  | .ends _, _ => .next s

/-- R180: the frame a fetch shifts out: the response's, or a length byte of 0. -/
def fetchFrame : Option Response → List Byte
  | none => [0]
  | some r => r.frame

/-- R177, R180: the first `n` bytes shifted out after the status byte, 0x00 beyond the frame. -/
def shiftedOut (frame : List Byte) (n : Nat) : List Byte := (frame ++ List.replicate n 0).take n

/-- FETCH (R180): the response that is oldest when byte 0 makes the transaction a fetch (DESIGN CHOICE, log 6) is shifted out, or
a length byte of 0; at the end it is removed when its whole frame was. -/
def execFetch (l : Link) (moment : Transaction) (s : State) : Host.Outcome State Fault Refusal :=
  match moment, transactionOf s l with
  | .begins, _ => .next (beginTransaction l s)
  | .completes bytes, some (.opening status) =>
    if bytes = [0x80#8] then .next (completeOperation l (.fetching (s.links.get l).responses.head?) status 1 s) else .next s
  | .ends clocked, some (.fetching response) =>
    let frame := fetchFrame response
    let fetched := response.isSome && decide (frame.length ≤ clocked)
    .next
      (onLink l (fun p => { p with responses := if fetched then p.responses.tail else p.responses })
        (endTransaction l (shiftedOut frame clocked) s))
  | .completes _, _ => .next s
  | .ends _, _ => .next s

/-- R178: the judgement of the credits at the completion of a frame: the request is queued, or the frame is dropped with
the overflow flag set and LINK_FULL handed to the Refusal Capture. -/
def acceptFrame (l : Link) (r : QueuedRequest) (s : State) : State :=
  if 0 < (s.links.get l).credits then onLink l (fun p => { p with requests := p.requests ++ [r] }) s
  else recordFault l (some r.code) .linkFull (onLink l (fun p => { p with overflow := true }) s)

/-- REQUEST_FRAME (R178): at its completion the frame is judged; what follows is ignored until the end. A transaction whose
byte 0 is no operation only shifts its bytes out (R177). Bytes that are not a complete frame are no completion (log 2). -/
def execRequestFrame (l : Link) (moment : Transaction) (s : State) : Host.Outcome State Fault Refusal :=
  match moment, transactionOf s l with
  | .begins, _ => .next (beginTransaction l s)
  | .completes bytes, some (.opening status) =>
    match frameShape bytes with
    | .complete code long args =>
      .next (acceptFrame l ⟨code, long, args⟩ (completeOperation l .framed status bytes.length s))
    | .noOperation => .next (completeOperation l .framed status bytes.length s)
    | .noByte => .next s
    | .notRequest => .next s
    | .cutShort _ => .next s
  | .ends clocked, some .framed => .next (endTransaction l (List.replicate clocked 0) s)
  | .completes _, _ => .next s
  | .ends _, _ => .next s

/-- R179: a transaction that is cut before its operation is complete, after `n` whole bytes. -/
def cutTransaction (l : Link) (status : Byte) (n : Nat) (s : State) : State :=
  onLink l (fun p => { p with transaction := none, shifted := statusThenZeros status n }) s

/-- TRUNCATED (R179): the fault goes to the Refusal Capture, with the request code when byte 0 was complete. -/
def execTruncated (l : Link) (bytes : List Byte) (s : State) : Host.Outcome State Fault Refusal :=
  match transactionOf s l with
  | some (.opening status) =>
    match frameShape bytes with
    | .noByte => .next (recordFault l none .truncated (cutTransaction l status 0 s))
    | .cutShort code => .next (recordFault l (some code) .truncated (cutTransaction l status bytes.length s))
    | .complete _ _ _ => .next s
    | .notRequest => .next s
    | .noOperation => .next s
  | _ => .next s

/-- LINK_SELECT_NEGATED (R189): the port has accepted xSEL_n negated and may begin a transaction. -/
def execLinkSelectNegated (l : Link) (s : State) : Host.Outcome State Fault Refusal :=
  if s.inReset then .next s else .next (onLink l (fun p => { p with awaitDeselect := false }) s)

/-! ## Requests (R183, R185, R188, R193, R194) -/

/-- The rule of SET_LINKS (R188). -/
def ruleSetLinks (_l : Link) (args : List Byte) (s : State) : Reply :=
  if !(s.links.pattern.requests.isEmpty && s.links.unwind.requests.isEmpty) then .refused .state
  else if !inRange 2 15 (field args 0 1) then .refused .range
  else .granted { s with starvation := field args 0 1 } []

/-- SET_LINKS (R188). -/
def execSetLinks (s : State) : Host.Outcome State Fault Refusal := .next (takeRequest .setLinks ruleSetLinks s)

/-- R194: a link's notices under a new subscription: pending codes outside it are removed. -/
def NoticeBox.resubscribed (b : NoticeBox) (c : ClassSet) : NoticeBox := ⟨c, b.pendingSet.filter (fun n => c.holds n)⟩

/-- The rule of SUBSCRIBE (R194): the response reports the subscription as stored and the codes removed. -/
def ruleSubscribe (l : Link) (args : List Byte) (s : State) : Reply :=
  if 63 < field args 0 1 then .refused .range
  else
    let c := ClassSet.ofByte (BitVec.ofNat 8 (field args 0 1))
    let old := s.notices.get l
    let new := old.resubscribed c
    .granted { s with notices := s.notices.set l new }
      (num 1 c.bits ++ num 1 (old.pendingSet.length - new.pendingSet.length))

/-- SUBSCRIBE (R194). -/
def execSubscribe (s : State) : Host.Outcome State Fault Refusal := .next (takeRequest .subscribe ruleSubscribe s)

/-- The rule of TAKE_NOTICE (R193, R197): the highest-ranked code and the number left; NONE is 0 and 0. -/
def ruleTakeNotice (l : Link) (_args : List Byte) (s : State) : Reply :=
  match (s.notices.get l).pendingSet with
  | [] => .granted s [0, 0]
  | n :: rest =>
    .granted { s with notices := s.notices.set l { s.notices.get l with pendingSet := rest } }
      (num 1 n.rank ++ num 1 rest.length)

/-- TAKE_NOTICE (R193). -/
def execTakeNotice (s : State) : Host.Outcome State Fault Refusal := .next (takeRequest .takeNotice ruleTakeNotice s)

/-- The number of a link in a response, in the order of 00_scope (log 7). -/
def linkNumber : Link → Nat
  | .line => 0
  | .pattern => 1
  | .unwind => 2

/-- The capture record as it crosses the link: 10 bytes, the request code with its presence byte (R184, R197). -/
def CaptureRecord.bytes (r : CaptureRecord) : List Byte :=
  num 1 (linkNumber r.link) ++ optional 1 (fun c => [c]) r.code ++ num 1 r.fault.number ++ timeBytes r.time

/-- The rule of READ_FAULT (R185): the capture is reported with the count, and emptied. -/
def ruleReadFault (_l : Link) (_args : List Byte) (s : State) : Reply :=
  .granted { s with capture := { s.capture with record := none } }
    (optional 10 CaptureRecord.bytes s.capture.record ++ num 2 s.capture.count)

/-- READ_FAULT (R185). -/
def execReadFault (s : State) : Host.Outcome State Fault Refusal := .next (takeRequest .readFault ruleReadFault s)

/-- UNASSIGNED_REQUEST_CODE (R183): the request is refused UNKNOWN. -/
def execUnassignedRequestCode (s : State) : Host.Outcome State Fault Refusal := .next (takeUnassigned s)

end Sys2Proof.Machine
end

