-- ==== Sys2Proof/Machine/Run.lean ====
section
/-!
DEFINITION. Run Control (chapter 6): the safety input (R104), RUN, DRAIN, STOP, HALT and RESUME (R96 to R103), and the
line clear (R106) with its effect in every block.
-/

namespace Sys2Proof.Machine

/-! ## The safety input (R104) -/

/-- SAFE_STOP_ASSERTION (R104): an accepted change from negated to asserted. -/
def execSafeStopAssertion (s : State) : Host.Outcome State Fault Refusal :=
  if s.inReset || s.levels.safeStop then .next s
  else .next (assertSafe { s with levels := { s.levels with safeStop := true } })

/-- SAFE_STOP_NEGATION (R104): it changes nothing but the level. -/
def execSafeStopNegation (s : State) : Host.Outcome State Fault Refusal :=
  if s.inReset || !s.levels.safeStop then .next s
  else .next { s with levels := { s.levels with safeStop := false } }

/-! ## RUN, DRAIN, STOP, HALT (R96, R97, R99, R101) -/

/-- R96: entry into RUNNING: the excursion starts from 0, and the Unwind Unit searches if a splice is DUE. -/
def enterRunning (s : State) : State :=
  trySearch
    { s with
      run := { s.run with state := .running, lastChange := s.lineTime }
      feed := { s.feed with excursion := 0 } }

/-- The rule of RUN (R96). -/
def ruleRun (_l : Link) (_args : List Byte) (s : State) : Reply :=
  if s.run.state ≠ .stopped then .refused .state
  else if (runningSide s.unwind).isNone then .refused .noRoll
  else .granted (enterRunning s) []

/-- RUN (R96). -/
def execRun (s : State) : Host.Outcome State Fault Refusal := .next (takeRequest .run ruleRun s)

/-- The run states in the order R93 lists them, as R197 numbers them: STOPPED, RUNNING, DRAINING, HALTED. -/
def RunState.number : RunState → Nat
  | .stopped => 0
  | .running => 1
  | .draining => 2
  | .halted => 3

/-- The rule of DRAIN (R97): a drain already complete stops the line at once with DRAINED; the response reports the state. -/
def ruleDrain (_l : Link) (_args : List Byte) (s : State) : Reply :=
  if s.run.state ≠ .running then .refused .state
  else if drainComplete s then .granted (raise .drained (enterStopped s)) (num 1 RunState.stopped.number)
  else
    .granted { s with run := { s.run with state := .draining, lastChange := s.lineTime } }
      (num 1 RunState.draining.number)

/-- DRAIN (R97). -/
def execDrain (s : State) : Host.Outcome State Fault Refusal := .next (takeRequest .drain ruleDrain s)

/-- The rule of STOP (R99). -/
def ruleStop (_l : Link) (_args : List Byte) (s : State) : Reply :=
  if producing s then .granted (enterStopped s) [] else .refused .state

/-- STOP (R99). -/
def execStop (s : State) : Host.Outcome State Fault Refusal := .next (takeRequest .stop ruleStop s)

/-- The rule of HALT (R101): OPERATOR is added, and the response reports the cause set as it stands after it. -/
def ruleHalt (_l : Link) (_args : List Byte) (s : State) : Reply :=
  .granted (addCause .operator s) (num 1 (addCause .operator s).run.causes.bits)

/-- HALT (R101). -/
def execHalt (s : State) : Host.Outcome State Fault Refusal := .next (takeRequest .halt ruleHalt s)

/-! ## RESUME (R102, R103) -/

/-- R102: ROLL_OUT's condition: no record is RUNNING, or the running roll's L is not greater than the end reserve. -/
def rollOutHolds (u : UnwindUnit) : Bool :=
  match runningRoll u with
  | none => true
  | some r => decide (r.length ≤ u.settings.endReserve)

/-- R102: SPLICE_FAIL's condition: either roll record is in CHECK. -/
def spliceFailHolds (u : UnwindUnit) : Bool := rollIs .check u.rolls.a || rollIs .check u.rolls.b

/-- R102, R108: the active subset: each cause in the set whose condition is true. -/
def activeCauses (s : State) : CauseSet :=
  { CauseSet.none with
    safe := s.run.causes.safe && s.levels.safeStop
    mapFull := s.run.causes.mapFull && decide (24 ≤ s.map.segments.length)
    rollOut := s.run.causes.rollOut && rollOutHolds s.unwind
    spliceFail := s.run.causes.spliceFail && spliceFailHolds s.unwind }

/-- R103: a granted RESUME empties the set and moves the line to STOPPED; with SAFE removed, CLAMP is asserted once its gap
has passed and the stroke groups present the latch again. -/
def resumeLine (s : State) : State :=
  let t :=
    { s with run := { s.run with state := .stopped, causes := CauseSet.none, lastChange := s.lineTime } }
  if s.run.causes.safe then presentLatch (settleClamp t) else t

/-- The rule of RESUME (R102, R103). -/
def ruleResume (_l : Link) (_args : List Byte) (s : State) : Reply :=
  if s.run.state ≠ .halted then .refused .state
  else if activeCauses s ≠ CauseSet.none then .refused .causeActive
  else .granted (resumeLine s) []

/-- RESUME (R102). -/
def execResume (s : State) : Host.Outcome State Fault Refusal := .next (takeRequest .resume ruleResume s)

/-! ## The line clear (R106, and the line-clear rule of each block) -/

/-- R3, R10: both positions become 0, without a position-change event (log 28). -/
def clearPositions (s : State) : State :=
  { s with feed := { s.feed with position := 0 }, carrier := { s.carrier with position := 0 } }

/-- R43, R45, R56, R33: the plan is emptied, the cursor and the last appended position unset, every context dropped and its
slot reference released. -/
def clearPlanner (s : State) : State :=
  let t :=
    { s with plan := [], planner := { s.planner with contexts := [], cursor := none, lastAppended := none } }
  s.planner.contexts.foldl (fun u c => dropRef c.slot u) t

/-- R72: the expectations are emptied, the measurement closed and the last accepted mark removed. -/
def clearMarks (s : State) : State :=
  { s with marks := { s.marks with list := [], measurement := none, last := none } }

/-- R92: the last fired position is removed, the region becomes FOLDING, the ceiling is recomputed over no fold. -/
def clearHead (s : State) : State :=
  refreshCeiling { s with head := { s.head with pendingFold := none, lastFired := none, region := .folding } }

/-- R127: every segment is discarded and counted in cleared, and GATE is negated. -/
def clearMap (s : State) : State :=
  { s with
    map := { s.map with segments := [], cleared := s.map.cleared + BitVec.ofNat 32 s.map.segments.length }
    exitUnit := { s.exitUnit with gate := false } }

/-- R175: the splice record at a line clear, with the feed position before it. -/
def Splice.cleared (u : UnwindUnit) (feed : Nat) : Splice :=
  match u.splice with
  | .idle => .idle
  | .due reason => .due reason
  | .planned .request _ _ _ => .due .request
  | .planned .reserve _ _ _ =>
    match runningRoll u with
    | some r => if r.length ≤ u.settings.changeReserve then .due .reserve else .idle
    | none => .idle
  | .fired reason side x f fa knife => .fired reason side x f fa (knife - feed)
  | .cutting reason side x f fa knife => .cutting reason side x f fa knife

/-- R175: the splice record is returned or rebased, and the seam record removed without a judgement. -/
def clearUnwind (feed : Nat) (s : State) : State :=
  { s with unwind := { s.unwind with splice := Splice.cleared s.unwind feed, seam := none } }

/-- R106: the line clear, one event in every block that holds state laid over the fabric or counted on the old positions. -/
def lineClear (s : State) : State :=
  clearUnwind s.feed.position (clearMap (clearHead (clearMarks (clearPlanner (clearPositions s)))))

/-- The rule of CLEAR_LINE (R106): the response reports the plan entries removed, the contexts dropped and the segments
discarded. -/
def ruleClearLine (_l : Link) (_args : List Byte) (s : State) : Reply :=
  if atRest s then
    .granted (lineClear s)
      (num 1 s.plan.length ++ num 1 s.planner.contexts.length ++ num 1 s.map.segments.length)
  else .refused .state

/-- CLEAR_LINE (R106). -/
def execClearLine (s : State) : Host.Outcome State Fault Refusal := .next (takeRequest .clearLine ruleClearLine s)

end Sys2Proof.Machine
end

