-- ==== Sys2Proof/Machine/Store.lean ====
section
/-!
DEFINITION. The Pattern Store's requests (chapter 2: R19 to R27) and the Panel Queue's (chapter 3: R35, R36, R38).
-/

namespace Sys2Proof.Machine

/-- Replace the contents of a slot. -/
def setSlot (i : Fin 16) (sl : Slot) (s : State) : State := { s with slots := s.slots.set i sl }

/-! ## OPEN_PATTERN (R20) -/

/-- The header an OPEN_PATTERN carries from byte 1, in the order of 2.2 (R196), the window stored as 0 when R is 0. -/
def headerOf (args : List Byte) : Header :=
  { tag := field args 1 2
    repeatLen := field args 3 3
    shrink := field args 6 2
    window := if field args 3 3 = 0 then 0 else field args 8 2
    lagLimit := field args 10 2
    doseMin := field args 12 3
    doseMax := field args 15 3
    baseTemp := field args 18 2 }

/-- The ranges of 2.2 (R20). The tag and dose min fill their fields, so every value of theirs is in range. -/
def Header.valid (h : Header) : Bool :=
  (h.repeatLen == 0 || (inRange 10000 2000000 h.repeatLen && inRange 20 5000 h.window)) && inRange 0 2000 h.shrink &&
    inRange 0 2000 h.lagLimit && inRange h.doseMin 16777215 h.doseMax && inRange 0 2000 h.baseTemp

/-- The rule of OPEN_PATTERN (R19, R20); the response acknowledges the slot number. -/
def ruleOpenPattern (_l : Link) (args : List Byte) (s : State) : Reply :=
  match slotOf (field args 0 1) with
  | none => .refused .range
  | some i =>
    match s.slots[i] with
    | .empty =>
      if (headerOf args).valid then .granted (setSlot i (.loading (headerOf args) []) s) (num 1 i.val)
      else .refused .range
    | .loading _ _ => .refused .slotState
    | .ready _ _ _ => .refused .slotState
    | .retiring _ _ _ => .refused .slotState

/-- OPEN_PATTERN (R20). -/
def execOpenPattern (s : State) : Host.Outcome State Fault Refusal := .next (takeRequest .openPattern ruleOpenPattern s)

/-! ## ADD_STEPS (R21 to R23, R196) -/

/-- R21: the check of one step, counting only the fields that apply to its kind. -/
def PatternStep.valid (st : PatternStep) : Bool :=
  inRange 1 255 st.count &&
    (match st.kind with
      | .knife | .box => inRange 1000 99999 st.pitch && inRange 0 40000 st.waist && inRange 0 40000 st.hem
      | .accordion => inRange 0 40000 st.waist && inRange 0 40000 st.hem && decide (500 ≤ max st.waist st.hem)
      | .flat => inRange 1000 99999 st.pitch)

/-- R21: a step as the store keeps it: the fields that do not apply to its kind are stored as 0 or no. -/
def PatternStep.stored (st : PatternStep) : PatternStep :=
  match st.kind with
  | .knife | .box => { st with spliceOk := false }
  | .accordion => { st with pitch := 0, spliceOk := false }
  | .flat => { st with waist := 0, hem := 0 }

/-- R196: the steps an ADD_STEPS carries, as carried. -/
def stepsOf (args : List Byte) : List PatternStep :=
  (List.range (stepsCarried args.length)).map (stepAt (leNat args))

/-- R196: the slot an ADD_STEPS names, in bits 0 to 3 of its bit string. -/
def addStepsSlot (args : List Byte) : Fin 16 := ⟨leNat args % 16, Nat.mod_lt _ (by decide)⟩

/-- The rule of ADD_STEPS (R19, R23); the response gives the slot's new step count and the pool's new free count. -/
def ruleAddSteps (_l : Link) (args : List Byte) (s : State) : Reply :=
  let i := addStepsSlot args
  let added := stepsOf args
  match s.slots[i] with
  | .loading h steps =>
    if !added.all PatternStep.valid then .refused .range
    else if poolFree s.slots < added.length ∨ 128 < steps.length + added.length then .refused .full
    else
      let t := setSlot i (.loading h (steps ++ added.map PatternStep.stored)) s
      .granted t (num 1 (steps.length + added.length) ++ num 2 (poolFree t.slots))
  | .empty => .refused .slotState
  | .ready _ _ _ => .refused .slotState
  | .retiring _ _ _ => .refused .slotState

/-- ADD_STEPS (R23). -/
def execAddSteps (s : State) : Host.Outcome State Fault Refusal := .next (takeRequest .addSteps ruleAddSteps s)

/-! ## CLOSE_PATTERN and DISCARD_PATTERN (R24, R27) -/

/-- R24: the list holds a step of a fold kind, and so at least one step. -/
def closable (steps : List PatternStep) : Bool := steps.any (fun st => st.kind != .flat)

/-- The rule of CLOSE_PATTERN (R24); the response gives the step count. -/
def ruleClosePattern (_l : Link) (args : List Byte) (s : State) : Reply :=
  match slotOf (field args 0 1) with
  | none => .refused .range
  | some i =>
    match s.slots[i] with
    | .loading h steps =>
      if closable steps then .granted (setSlot i (.ready h steps 0) s) (num 1 steps.length) else .refused .invalid
    | .empty => .refused .slotState
    | .ready _ _ _ => .refused .slotState
    | .retiring _ _ _ => .refused .slotState

/-- CLOSE_PATTERN (R24). -/
def execClosePattern (s : State) : Host.Outcome State Fault Refusal :=
  .next (takeRequest .closePattern ruleClosePattern s)

/-- The slot states in the order R18 lists them, as R197 numbers them. -/
def Slot.number : Slot → Nat
  | .empty => 0
  | .loading _ _ => 1
  | .ready _ _ _ => 2
  | .retiring _ _ _ => 3

/-- The rule of DISCARD_PATTERN (R27). The response is the state reached, followed by the reference count with its presence
byte, absent for EMPTY (R197; log 7). -/
def ruleDiscardPattern (_l : Link) (args : List Byte) (s : State) : Reply :=
  match slotOf (field args 0 1) with
  | none => .refused .range
  | some i =>
    match s.slots[i] with
    | .empty => .refused .slotState
    | .loading _ _ => .granted (setSlot i .empty s) (num 1 Slot.empty.number ++ optional 1 (num 1) none)
    | .ready h steps n =>
      if n = 0 then .granted (setSlot i .empty s) (num 1 Slot.empty.number ++ optional 1 (num 1) none)
      else
        .granted (setSlot i (.retiring h steps n) s)
          (num 1 (Slot.retiring h steps n).number ++ optional 1 (num 1) (some n))
    | .retiring _ _ _ => .refused .slotState

/-- DISCARD_PATTERN (R27). -/
def execDiscardPattern (s : State) : Host.Outcome State Fault Refusal :=
  .next (takeRequest .discardPattern ruleDiscardPattern s)

/-! ## QUEUE_PANEL and CANCEL_PANEL (R35, R36, R38) -/

/-- The slot is READY. -/
def Slot.isReady : Slot → Bool
  | .ready _ _ _ => true
  | _ => false

/-- The rule of QUEUE_PANEL (R35): slot 1 byte, order tag 4, copies 2; the response gives the queue's length. -/
def ruleQueuePanel (_l : Link) (args : List Byte) (s : State) : Reply :=
  match slotOf (field args 0 1) with
  | none => .refused .range
  | some i =>
    if !s.slots[i].isReady then .refused .slotState
    else if !inRange 1 999 (field args 5 2) then .refused .range
    else if 32 ≤ s.orders.length then .refused .full
    else
      .granted
        (addRef i
          { s with orders := s.orders ++ [{ slot := i, tag := field args 1 4, copies := field args 5 2, started := 0 }] })
        (num 1 (s.orders.length + 1))

/-- QUEUE_PANEL (R35). -/
def execQueuePanel (s : State) : Host.Outcome State Fault Refusal := .next (takeRequest .queuePanel ruleQueuePanel s)

/-- The sum of copies requested less copies started (R36, R39). -/
def outstanding (orders : List PanelOrder) : Nat := (orders.map (fun o => o.copies - o.started)).sum

/-- R36, R38: remove every entry that carries the tag, release the references, and raise QUEUE_EMPTY when none remains. -/
def cancelOrders (tag : Nat) (s : State) : State :=
  let kept := s.orders.filter (fun o => o.tag != tag)
  let t :=
    (s.orders.filter (fun o => o.tag == tag)).foldl (fun u o => dropRef o.slot u) { s with orders := kept }
  if kept.isEmpty then raise .queueEmpty t else t

/-- The rule of CANCEL_PANEL (R36): the response gives the entries removed and the copies cancelled. -/
def ruleCancelPanel (_l : Link) (args : List Byte) (s : State) : Reply :=
  let removed := s.orders.filter (fun o => o.tag == field args 0 4)
  if removed.isEmpty then .refused .notFound
  else .granted (cancelOrders (field args 0 4) s) (num 1 removed.length ++ num 2 (outstanding removed))

/-- CANCEL_PANEL (R36). -/
def execCancelPanel (s : State) : Host.Outcome State Fault Refusal := .next (takeRequest .cancelPanel ruleCancelPanel s)

end Sys2Proof.Machine
end

