-- ==== Sys2Proof/Machine/Reads.lean ====
section
/-!
DEFINITION. The READ requests: what each reports, in the order its rule lists it, laid out by R197 and chapter 12. None
changes state beyond the taking itself. Log 7 holds what R197 leaves to be read from the rules.
-/

namespace Sys2Proof.Machine

/-- The items of a list from an index onwards, at most `n` of them. -/
def page {α : Type} (first n : Nat) (l : List α) : List α := (l.drop first).take n

/-! ## READ_TRACKING (R17) -/

/-- The tracking settings in the order of 1.8. -/
def TrackingSettings.bytes (t : TrackingSettings) : List Byte :=
  num 2 t.feedTick ++ num 3 t.markOffset ++ num 2 t.markWidthMin ++ num 2 t.markWidthMax ++ num 3 t.reverseTolerance ++
    num 2 t.standstillMs ++ num 3 t.exitDistance ++ num 3 t.cutDwell

/-- FORWARD 0, REVERSE 1 (R1, R197). -/
def Direction.number : Direction → Nat
  | .forward => 0
  | .reverse => 1

/-- The rule of READ_TRACKING (R17). -/
def ruleReadTracking (_l : Link) (_args : List Byte) (s : State) : Reply :=
  .granted s
    (posBytes s.feed.position ++ num 1 s.feed.direction.number ++ num 3 s.feed.excursion ++ num 4 s.feed.speed ++
      flag s.feed.standstill ++ posBytes s.carrier.position ++ flag s.carrier.standstill ++ timeBytes s.lineTime ++
      s.tracking.bytes)

/-- READ_TRACKING (R17). -/
def execReadTracking (s : State) : Host.Outcome State Fault Refusal :=
  .next (takeRequest .readTracking ruleReadTracking s)

/-! ## READ_PATTERN (R30) -/

/-- A header in the order of 2.2: 19 bytes. -/
def Header.bytes (h : Header) : List Byte :=
  num 2 h.tag ++ num 3 h.repeatLen ++ num 2 h.shrink ++ num 2 h.window ++ num 2 h.lagLimit ++ num 3 h.doseMin ++
    num 3 h.doseMax ++ num 2 h.baseTemp

/-- The step kinds in the numbering of R196. -/
def StepKind.number : StepKind → Nat
  | .knife => 0
  | .box => 1
  | .accordion => 2
  | .flat => 3

/-- A step with the fields R21 stores, in the order of 2.3. -/
def PatternStep.bytes (st : PatternStep) : List Byte :=
  num 1 st.kind.number ++ num 3 st.pitch ++ num 2 st.waist ++ num 2 st.hem ++ num 1 st.count ++ flag st.spliceOk

/-- The rule of READ_PATTERN (R30). -/
def ruleReadPattern (_l : Link) (args : List Byte) (s : State) : Reply :=
  match slotOf (field args 0 1) with
  | none => .refused .range
  | some i =>
    if 127 < field args 1 1 then .refused .range
    else
      .granted s
        (num 1 s.slots[i].number ++ num 1 s.slots[i].refs ++ num 1 s.slots[i].steps.length ++ num 2 (poolFree s.slots) ++
          optional 19 Header.bytes s.slots[i].header? ++ listBytes PatternStep.bytes (page (field args 1 1) 4 s.slots[i].steps))

/-- READ_PATTERN (R30). -/
def execReadPattern (s : State) : Host.Outcome State Fault Refusal := .next (takeRequest .readPattern ruleReadPattern s)

/-! ## READ_QUEUE (R39) -/

/-- A Panel Queue entry with its four fields (R34). -/
def PanelOrder.bytes (o : PanelOrder) : List Byte :=
  num 1 o.slot.val ++ num 4 o.tag ++ num 2 o.copies ++ num 2 o.started

/-- The rule of READ_QUEUE (R39). -/
def ruleReadQueue (_l : Link) (args : List Byte) (s : State) : Reply :=
  if 31 < field args 0 1 then .refused .range
  else
    .granted s
      (num 1 s.orders.length ++ num 2 (outstanding s.orders) ++
        listBytes PanelOrder.bytes (page (field args 0 1) 4 s.orders))

/-- READ_QUEUE (R39). -/
def execReadQueue (s : State) : Host.Outcome State Fault Refusal := .next (takeRequest .readQueue ruleReadQueue s)

/-! ## READ_PLAN (R57) -/

/-- PLANNING, PLAN_FULL, LIST_FULL, NO_MATERIAL, DRAINING, RANGE_END in the order of R57. -/
def PlannerCondition.number : PlannerCondition → Nat
  | .planning => 0
  | .planFull => 1
  | .listFull => 2
  | .noMaterial => 3
  | .draining => 4
  | .rangeEnd => 5

/-- The kinds of R53 in its order, each followed by its extra fields. -/
def EntryKind.number : EntryKind → Nat
  | .panelStart => 0
  | .fold _ _ => 1
  | .flat _ _ => 2
  | .panelEnd => 3

/-- The fields of a plan entry's kind (R53): only those its kind has, without presence bytes and without zeros in place of the
others, so that entries differ in length (DESIGN CHOICE, log 7). -/
def EntryKind.fieldBytes : EntryKind → List Byte
  | .panelStart => []
  | .fold w h => num 1 w.toNat ++ num 1 h.toNat
  | .flat len ok => num 3 len ++ flag ok
  | .panelEnd => []

/-- A plan entry: kind, position, serial and the fields of its kind (R57). -/
def PlanEntry.bytes (e : PlanEntry) : List Byte :=
  num 1 e.kind.number ++ posBytes e.position ++ le 2 e.serial.toNat ++ e.kind.fieldBytes

/-- A context: serial, tag, slot, k in force, flags, start consumed, being planned (R57). -/
def Context.bytes (c : Context) : List Byte :=
  le 2 c.serial.toNat ++ num 4 c.tag ++ num 1 c.slot.val ++ num 3 c.k ++ num 2 c.flags.bits ++ flag c.startConsumed ++
    flag c.planning.isSome

/-- The copy being planned: serial, step index, pleat index, next mark position (R57). -/
def planningBytes (c : Context × PlanningState) : List Byte :=
  le 2 c.1.serial.toNat ++ num 1 c.2.stepIndex ++ num 1 c.2.pleatIndex ++ posBytes c.2.nextMark

/-- The rule of READ_PLAN (R57). The contexts come in the order of their creation (DESIGN CHOICE, log 37). -/
def ruleReadPlan (_l : Link) (args : List Byte) (s : State) : Reply :=
  if 127 < field args 0 1 then .refused .range
  else
    .granted s
      (num 1 s.plan.length ++ num 1 s.marks.list.length ++ optional 5 posBytes s.planner.cursor ++
        optional 5 posBytes s.planner.lastAppended ++ le 2 s.planner.nextSerial.toNat ++
        num 1 (plannerCondition s).number ++ optional 9 planningBytes (planningCopy s) ++
        listBytes Context.bytes s.planner.contexts ++ listBytes PlanEntry.bytes (page (field args 0 1) 4 s.plan))

/-- READ_PLAN (R57). -/
def execReadPlan (s : State) : Host.Outcome State Fault Refusal := .next (takeRequest .readPlan ruleReadPlan s)

/-! ## READ_MARKS (R71) -/

/-- The spoil reasons: REVERSE 0, WIDTH 1 (R58, R59; log 7). -/
def SpoilReason.number : SpoilReason → Nat
  | .reverse => 0
  | .width => 1

/-- The outcomes of R71 in its order; NONE is 0. -/
def MarkOutcome.number : MarkOutcome → Nat
  | .accepted => 1
  | .stray => 2
  | .discardedWidth => 3
  | .discardedReverse => 4
  | .miss => 5
  | .rejectedK => 6
  | .rejectedRange => 7

/-- The last accepted mark: head position, serial, miss tally (R69). -/
def AcceptedMark.bytes (a : AcceptedMark) : List Byte := posBytes a.headPos ++ le 2 a.serial.toNat ++ num 1 a.tally

/-- An open measurement: leading position, head position, width, spoiled flag with its reason (R71). No rule gives the width a
range, so R196 and R197 fix no size for it: 4 bytes are the model's choice (DESIGN CHOICE, log 7), a wider value free (log 8). The
spoiled flag has no byte of its own: the presence byte of its reason stands for it (DESIGN CHOICE, log 7). -/
def Measurement.bytes (q : Measurement) : List Byte :=
  posBytes q.leadPos ++ posBytes q.headPos ++ num 4 q.width ++ optional 1 (fun r => num 1 r.number) q.spoiled

/-- The last outcome's number (R71). -/
def outcomeNumber (o : Option OutcomeRecord) : Nat :=
  match o with
  | none => 0
  | some r => r.outcome.number

/-- An expectation with its five fields (R60). -/
def Expectation.bytes (e : Expectation) : List Byte :=
  posBytes e.position ++ num 2 e.window ++ le 2 e.serial.toNat ++ num 3 e.index ++ num 3 e.repeatLen

/-- The rule of READ_MARKS (R71). The last outcome's width takes 4 bytes, as a measurement's does (DESIGN CHOICE, log 7). -/
def ruleReadMarks (_l : Link) (args : List Byte) (s : State) : Reply :=
  if 15 < field args 0 1 then .refused .range
  else
    .granted s
      (num 3 s.marks.k ++ optional 8 AcceptedMark.bytes s.marks.last ++ num 1 s.marks.misses ++
        optional 16 Measurement.bytes s.marks.measurement ++ num 1 (outcomeNumber s.marks.outcome) ++
        optional 9 (fun o => posBytes o.headPos ++ num 4 o.width) s.marks.outcome ++ num 1 s.marks.list.length ++
        listBytes Expectation.bytes (page (field args 0 1) 4 s.marks.list))

/-- READ_MARKS (R71). -/
def execReadMarks (s : State) : Host.Outcome State Fault Refusal := .next (takeRequest .readMarks ruleReadMarks s)

/-! ## READ_HEAD (R90) -/

/-- IDLE, OPENING, STRIKE, CLOSING (R79, 5.1). -/
def BladeCycle.number : BladeCycle → Nat
  | .idle => 0
  | .opening _ => 1
  | .strike _ => 2
  | .closing _ => 3

/-- A stroke code: 1 byte. -/
def codeByte (c : StrokeCode) : List Byte := num 1 c.toNat

/-- The pending fold: serial, position, codes, reach position (R90). -/
def PendingFold.bytes (p : PendingFold) : List Byte :=
  le 2 p.serial.toNat ++ posBytes p.position ++ codeByte p.waist ++ codeByte p.hem ++ posBytes p.reach

/-- FOLDING 0, FLAT 1 (R76). -/
def Region.number : Region → Nat
  | .folding => 0
  | .flat _ _ => 1

/-- The start and end of a FLAT region (R76). -/
def Region.span : Region → Option (Nat × Nat)
  | .folding => none
  | .flat first bound => some (first, bound)

/-- The head setup in the order of 5.7. -/
def HeadSetup.bytes (h : HeadSetup) : List Byte :=
  num 2 h.gap ++ num 3 h.dwell ++ (h.table.toList.map (num 2)).flatten

/-- The rule of READ_HEAD (R90). -/
def ruleReadHead (_l : Link) (_args : List Byte) (s : State) : Reply :=
  .granted s
    (num 1 s.head.cycle.number ++
      optional 7 (fun f : FoldInCycle => le 2 f.serial.toNat ++ posBytes f.position) s.head.inCycle ++
      optional 14 PendingFold.bytes s.head.pendingFold ++ optional 5 posBytes s.head.lastFired ++
      codeByte s.head.latchW ++ codeByte s.head.latchH ++ flag s.head.clamp ++ flag s.head.blade ++
      codeByte s.head.strokeW ++ codeByte s.head.strokeH ++ num 1 s.head.region.number ++
      optional 10 (fun r : Nat × Nat => posBytes r.1 ++ posBytes r.2) s.head.region.span ++ num 4 s.head.ceiling ++
      num 1 s.head.overCount ++ flag s.head.armed ++ s.head.setup.bytes)

/-- READ_HEAD (R90). -/
def execReadHead (s : State) : Host.Outcome State Fault Refusal := .next (takeRequest .readHead ruleReadHead s)

/-! ## READ_RUN (R108) -/

/-- The rule of READ_RUN (R108). -/
def ruleReadRun (_l : Link) (_args : List Byte) (s : State) : Reply :=
  .granted s
    (num 1 s.run.state.number ++ num 1 s.run.causes.bits ++ num 1 (activeCauses s).bits ++
      optional 7 (fun h : Cause × LineTime => num 1 h.1.number ++ timeBytes h.2) s.run.haltEntry ++
      timeBytes s.run.lastChange ++ flag s.levels.safeStop ++ flag (drainComplete s))

/-- READ_RUN (R108). -/
def execReadRun (s : State) : Host.Outcome State Fault Refusal := .next (takeRequest .readRun ruleReadRun s)

/-! ## READ_MAP (R125) -/

/-- A segment as read: 44 bytes (12.5), its trailing distance 0 while it is open. -/
def segmentBytes (s : State) (g : Segment) : List Byte :=
  le 2 g.serial.toNat ++ num 4 g.tag ++ num 1 g.slot.val ++ posBytes g.leading ++ optional 5 posBytes g.trailing ++
    num 3 g.doseMin ++ num 3 g.doseMax ++ num 2 g.baseTemp ++ num 2 g.lagLimit ++ num 3 g.dose ++ num 2 g.fired ++
    num 2 g.late ++ num 2 g.missed ++ num 2 g.flags.bits ++ posBytes ((trailingDistance s g).getD 0)

/-- The newest segment is open (R125); no, when the map holds none (DESIGN CHOICE, log 7). -/
def newestOpen (m : WebMap) : Bool :=
  match m.segments.getLast? with
  | none => false
  | some g => g.trailing.isNone

/-- A count of 32 bits: 4 bytes. -/
def wordBytes (n : BitVec 32) : List Byte := le 4 n.toNat

/-- The rule of READ_MAP (R125). -/
def ruleReadMap (_l : Link) (args : List Byte) (s : State) : Reply :=
  if 23 < field args 0 1 then .refused .range
  else
    .granted s
      (num 1 s.map.segments.length ++ flag (newestOpen s.map) ++ wordBytes s.map.started ++ wordBytes s.map.reported ++
        wordBytes s.map.dropped ++ wordBytes s.map.cleared ++ num 1 s.exitUnit.reports.length ++
        flag s.exitUnit.cut.isSome ++ flag s.exitUnit.gate ++
        optional 6 (fun t : Timer => timeBytes t.endTime) s.exitUnit.cut ++ posBytes s.carrier.position ++
        listBytes (segmentBytes s) (page (field args 0 1) 2 s.map.segments))

/-- READ_MAP (R125). -/
def execReadMap (s : State) : Host.Outcome State Fault Refusal := .next (takeRequest .readMap ruleReadMap s)

/-! ## READ_HEAT (R149) -/

/-- SUPPLY, PAUSE, VENT, REST (R139). -/
def ValvePhase.number : ValvePhase → Nat
  | .supply => 0
  | .pause => 1
  | .vent => 2
  | .rest => 3

/-- What READ_HEAT reports for each of the four zones. SUPPLY, VENT, the hot latch, RANGE and STALE are sent as one byte each
(DESIGN CHOICE, log 7). -/
def zoneBytes (s : State) (z : ZoneId) : List Byte :=
  let zone := s.heat.zones.get z
  let probe := s.heat.probes.get z
  num 2 zone.applied ++ num 1 zone.phase.number ++ flag zone.supplyOut ++ flag zone.ventOut ++ flag zone.hot ++
    tempBytes probe.temp ++ flag probe.range ++ flag probe.stale

/-- What READ_HEAT reports for the named zone in full. -/
def zoneFullBytes (s : State) (z : ZoneId) : List Byte :=
  let zone := s.heat.zones.get z
  let probe := s.heat.probes.get z
  num 3 zone.first ++ num 3 zone.bound ++ tempBytes zone.limit ++ num 2 zone.requested ++ timeBytes zone.period.start ++
    num 2 zone.period.supplyMs ++ optional 3 (num 3) probe.lastPeriod ++
    (probe.table.toList.map (fun p => num 3 p.period ++ tempBytes p.temp)).flatten

/-- The rule of READ_HEAT (R149). -/
def ruleReadHeat (_l : Link) (args : List Byte) (s : State) : Reply :=
  match zoneOf (field args 0 1) with
  | none => .refused .range
  | some z =>
    .granted s
      (num 2 s.heat.vMs ++ num 2 s.heat.gMs ++ num 2 s.heat.cap ++ num 2 s.heat.hysteresis ++ zoneBytes s .z1 ++
        zoneBytes s .z2 ++ zoneBytes s .z3 ++ zoneBytes s .z4 ++ zoneFullBytes s z ++ timeBytes s.lineTime)

/-- READ_HEAT (R149). -/
def execReadHeat (s : State) : Host.Outcome State Fault Refusal := .next (takeRequest .readHeat ruleReadHeat s)

/-! ## READ_UNWIND (R173) -/

/-- The states of a roll record in the order of R152, after EMPTY as 0. -/
def RollPhase.number : RollPhase → Nat
  | .loaded => 1
  | .ready => 2
  | .running => 3
  | .spent => 4
  | .check => 5

/-- A roll record as read: 19 bytes (12.5); an EMPTY one sends its state and 18 zero bytes. -/
def rollBytes : Option RollRecord → List Byte
  | none => List.replicate 19 0
  | some r =>
    num 1 r.phase.number ++ num 3 r.core ++ num 2 r.thickness ++ num 3 r.initial ++ num 3 r.diameter ++ num 5 r.length ++
      flag r.stale ++ num 1 r.held

/-- IDLE, DUE, PLANNED, FIRED, CUTTING (9.4). -/
def Splice.number : Splice → Nat
  | .idle => 0
  | .due _ => 1
  | .planned .. => 2
  | .fired .. => 3
  | .cutting .. => 4

/-- RESERVE 0, REQUEST 1 (9.4). -/
def SpliceReason.number : SpliceReason → Nat
  | .reserve => 0
  | .request => 1

/-- A = 0, B = 1 (R196). -/
def sideNumber : Side → Nat
  | .a => 0
  | .b => 1

/-- The reason of a splice record, where present. -/
def Splice.reason? : Splice → Option SpliceReason
  | .idle => none
  | .due r => some r
  | .planned r _ _ _ => some r
  | .fired r _ _ _ _ _ => some r
  | .cutting r _ _ _ _ _ => some r

/-- The new side, X and F of a splice record, where present. -/
def Splice.seat? : Splice → Option (Side × Nat × Nat)
  | .idle => none
  | .due _ => none
  | .planned _ side x f => some (side, x, f)
  | .fired _ side x f _ _ => some (side, x, f)
  | .cutting _ side x f _ _ => some (side, x, f)

/-- Fa and the knife position of a splice record, where present. -/
def Splice.shot? : Splice → Option (Nat × Nat)
  | .idle => none
  | .due _ => none
  | .planned _ _ _ _ => none
  | .fired _ _ _ _ fa knife => some (fa, knife)
  | .cutting _ _ _ _ fa knife => some (fa, knife)

/-- The splice record: state, reason, new side, X, F, Fa, knife position, each of the six with its presence byte. -/
def Splice.bytes (sp : Splice) : List Byte :=
  num 1 sp.number ++ optional 1 (fun r : SpliceReason => num 1 r.number) sp.reason? ++
    optional 1 (fun i => num 1 (sideNumber i)) (sp.seat?.map (·.1)) ++ optional 5 posBytes (sp.seat?.map (·.2.1)) ++
    optional 5 posBytes (sp.seat?.map (·.2.2)) ++ optional 5 posBytes (sp.shot?.map (·.1)) ++
    optional 5 posBytes (sp.shot?.map (·.2))

/-- The pulse of one paster, if it is asserted. -/
def pasteTimer (u : UnwindUnit) (side : Side) : Option Timer :=
  match u.paste with
  | some (i, t) => if i = side then some t else none
  | none => none

/-- The unwind settings in the order of 9.8. -/
def UnwindSettings.bytes (u : UnwindSettings) : List Byte :=
  num 3 u.pathLength ++ num 3 u.fireMargin ++ num 3 u.seamMin ++ num 3 u.knifeDelay ++ num 2 u.pasteDwellMs ++
    num 3 u.knifeDwell ++ num 4 u.changeReserve ++ num 4 u.endReserve

/-- The end time of a pulse in progress, with its presence byte. -/
def pulseEnd (t : Option Timer) : List Byte := optional 6 (fun t : Timer => timeBytes t.endTime) t

/-- The rule of READ_UNWIND (R173). -/
def ruleReadUnwind (_l : Link) (_args : List Byte) (s : State) : Reply :=
  let u := s.unwind
  .granted s
    (rollBytes u.rolls.a ++ rollBytes u.rolls.b ++
      optional 4 (fun i : RevInterval => num 3 i.n ++ flag i.spoiled) u.interval ++ u.splice.bytes ++
      optional 5 posBytes u.seam ++ flag (pasteTimer u .a).isSome ++ flag (pasteTimer u .b).isSome ++
      flag u.knife.isSome ++ pulseEnd (pasteTimer u .a) ++ pulseEnd (pasteTimer u .b) ++ pulseEnd u.knife ++
      u.settings.bytes ++ posBytes s.feed.position)

/-- READ_UNWIND (R173). -/
def execReadUnwind (s : State) : Host.Outcome State Fault Refusal := .next (takeRequest .readUnwind ruleReadUnwind s)

/-! ## READ_STATUS and READ_TIME (R186, R187) -/

/-- POWER 0, PIN 1 (R186). -/
def ResetKind.number : ResetKind → Nat
  | .power => 0
  | .pin => 1

/-- What READ_STATUS reports for one link: requests queued, responses waiting, credits free, overflow, head wait count,
promoted. On the requesting link the response being made is counted among those waiting (R186). The state is the one after the grant of the
READ_STATUS itself, so another link's wait count, and its promotion, are reported with the increment that this grant makes
(DESIGN CHOICE, log 41). -/
def linkBytes (s : State) (asking l : Link) : List Byte :=
  let p := s.links.get l
  let own := if asking = l then 1 else 0
  num 1 p.requests.length ++ num 1 (p.responses.length + own) ++
    num 1 (4 - (p.requests.length + (p.responses.length + own))) ++ flag p.overflow ++ num 1 p.waitCount ++
    flag (decide (s.starvation ≤ p.waitCount))

/-- The rule of READ_STATUS (R186). -/
def ruleReadStatus (l : Link) (_args : List Byte) (s : State) : Reply :=
  .granted s
    (num 1 s.resetCause.kind.number ++ timeBytes s.resetCause.time ++ timeBytes s.lineTime ++ num 1 s.starvation ++
      num 2 s.capture.count ++ flag s.capture.record.isSome ++ linkBytes s l .line ++ linkBytes s l .pattern ++
      linkBytes s l .unwind)

/-- READ_STATUS (R186). -/
def execReadStatus (s : State) : Host.Outcome State Fault Refusal := .next (takeRequest .readStatus ruleReadStatus s)

/-- The rule of READ_TIME (R187). -/
def ruleReadTime (_l : Link) (_args : List Byte) (s : State) : Reply := .granted s (timeBytes s.lineTime)

/-- READ_TIME (R187). -/
def execReadTime (s : State) : Host.Outcome State Fault Refusal := .next (takeRequest .readTime ruleReadTime s)

end Sys2Proof.Machine
end

