-- ==== Sys2Proof/Machine/Reset.lean ====
section
/-!
DEFINITION. The resets (R186, R189, R198, R31, R32 and the reset column of every chapter's table): power-on reset, the
accepted assertion of RESET_n, and its accepted negation.
-/

namespace Sys2Proof.Machine

/-- R105: at the end of a reset an asserted SAFE_STOP_n is treated as an assertion taken after the reset. -/
def sampleSafe (s : State) : State := if s.levels.safeStop then assertSafe s else s

/-- The model's own fields outlive a reset: the commands still waiting outside and the free choices drawn (log 32). -/
def State.carryOver (t s : State) : State := { t with pending := s.pending, choices := s.choices }

/-- POWER_ON_RESET (R186, R31): every block takes its power-on values, the line time 0 among them. It leaves the part out of
reset whatever the level of RESET_n, also when it is taken while RESET_n is asserted: R198 does not say whether the part is then
held in a hard reset (DESIGN CHOICE, log 40). -/
def execPowerOnReset (levels : InputLevels) (s : State) : Host.Outcome State Fault Refusal :=
  .next (sampleSafe ((State.afterReset 0 levels (Vector.replicate 16 Slot.empty) .power).carryOver s))

/-- R32: a hard reset keeps a READY slot with a reference count of 0, and empties every other. -/
def Slot.hardReset : Slot → Slot
  | .ready h steps _ => .ready h steps 0
  | .empty => .empty
  | .loading _ _ => .empty
  | .retiring _ _ _ => .empty

/-- R150: during a reset every valve is negated: a zone holds in REST (log 27). -/
def Zone.held (z : Zone) : Zone := { z with phase := .rest }

/-- Every zone held closed during a reset (R150). -/
def holdZones (s : State) : State :=
  { s with
    heat := { s.heat with
      zones := ⟨s.heat.zones.z1.held, s.heat.zones.z2.held, s.heat.zones.z3.held, s.heat.zones.z4.held⟩ } }

/-- HARD_RESET (R198): at the accepted assertion every block takes its hard-reset values and holds them; the line time
counts on, and the reset-cause record is written at the end (R186). -/
def execHardReset (s : State) : Host.Outcome State Fault Refusal :=
  if s.inReset then .next s
  else
    .next
      { holdZones ((State.afterReset s.lineTime s.levels (s.slots.map Slot.hardReset) .pin).carryOver s) with
        inReset := true, resetCause := s.resetCause }

/-- HARD_RESET_END (R198): the input levels are sampled, the reset-cause record written, the gates, valve periods and the dose
schedule begun, and SAFE_STOP_n sampled (R105). The last change time stays the line time of the reset (log 12). -/
def execHardResetEnd (levels : InputLevels) (s : State) : Host.Outcome State Fault Refusal :=
  if s.inReset then
    let t := (State.afterReset s.lineTime levels s.slots .pin).carryOver s
    .next (sampleSafe { t with run := { t.run with lastChange := s.run.lastChange } })
  else .next s

end Sys2Proof.Machine
end

