-- ==== Sys2Proof/Machine/Dispatch.lean ====
section
/-!
DEFINITION. The dispatch: one arm for each command, one direct call of its meaning.
-/

namespace Sys2Proof.Machine

/-- The effect of a command on everything but the queue of waiting commands. -/
def exec (i : Instr) (s : State) : Host.Outcome State Fault Refusal :=
  match i with
  | .powerOnReset levels => Sys2Proof.Machine.execPowerOnReset levels s
  | .hardReset => Sys2Proof.Machine.execHardReset s
  | .hardResetEnd levels => Sys2Proof.Machine.execHardResetEnd levels s
  | .feedEncoderChange a b => Sys2Proof.Machine.execFeedEncoderChange a b s
  | .speedGateEnd => Sys2Proof.Machine.execSpeedGateEnd s
  | .feedStandstillExpiry => Sys2Proof.Machine.execFeedStandstillExpiry s
  | .carrierTick => Sys2Proof.Machine.execCarrierTick s
  | .carrierStandstillExpiry => Sys2Proof.Machine.execCarrierStandstillExpiry s
  | .markLeadingEdge => Sys2Proof.Machine.execMarkLeadingEdge s
  | .markTrailingEdge => Sys2Proof.Machine.execMarkTrailingEdge s
  | .plannerBeginCopy => Sys2Proof.Machine.execPlannerBeginCopy s
  | .plannerAppendExpectation => Sys2Proof.Machine.execPlannerAppendExpectation s
  | .plannerAppendFold => Sys2Proof.Machine.execPlannerAppendFold s
  | .plannerAppendFlat => Sys2Proof.Machine.execPlannerAppendFlat s
  | .plannerAppendPanelEnd => Sys2Proof.Machine.execPlannerAppendPanelEnd s
  | .openingGapEnd => Sys2Proof.Machine.execOpeningGapEnd s
  | .dwellEnd => Sys2Proof.Machine.execDwellEnd s
  | .closingGapEnd => Sys2Proof.Machine.execClosingGapEnd s
  | .clampGapExpiry => Sys2Proof.Machine.execClampGapExpiry s
  | .safeStopAssertion => Sys2Proof.Machine.execSafeStopAssertion s
  | .safeStopNegation => Sys2Proof.Machine.execSafeStopNegation s
  | .cutDwellEnd => Sys2Proof.Machine.execCutDwellEnd s
  | .probeRisingEdge p => Sys2Proof.Machine.execProbeRisingEdge p s
  | .probeStalenessExpiry p => Sys2Proof.Machine.execProbeStalenessExpiry p s
  | .valvePeriodStart z => Sys2Proof.Machine.execValvePeriodStart z s
  | .supplyEnd z => Sys2Proof.Machine.execSupplyEnd z s
  | .pauseEnd z => Sys2Proof.Machine.execPauseEnd z s
  | .ventEnd z => Sys2Proof.Machine.execVentEnd z s
  | .doseTick => Sys2Proof.Machine.execDoseTick s
  | .revolutionPulse side => Sys2Proof.Machine.execRevolutionPulse side s
  | .intervalOverflow => Sys2Proof.Machine.execIntervalOverflow s
  | .pasteDwellExpiry => Sys2Proof.Machine.execPasteDwellExpiry s
  | .knifeDwellExpiry => Sys2Proof.Machine.execKnifeDwellExpiry s
  | .statusPoll poll => Sys2Proof.Machine.execStatusPoll poll s
  | .fetch l moment => Sys2Proof.Machine.execFetch l moment s
  | .requestFrame l moment => Sys2Proof.Machine.execRequestFrame l moment s
  | .truncated l bytes => Sys2Proof.Machine.execTruncated l bytes s
  | .run => Sys2Proof.Machine.execRun s
  | .drain => Sys2Proof.Machine.execDrain s
  | .stop => Sys2Proof.Machine.execStop s
  | .halt => Sys2Proof.Machine.execHalt s
  | .resume => Sys2Proof.Machine.execResume s
  | .clearLine => Sys2Proof.Machine.execClearLine s
  | .setTracking => Sys2Proof.Machine.execSetTracking s
  | .setHead => Sys2Proof.Machine.execSetHead s
  | .setCalibration => Sys2Proof.Machine.execSetCalibration s
  | .setHeat => Sys2Proof.Machine.execSetHeat s
  | .setZoneDuty => Sys2Proof.Machine.execSetZoneDuty s
  | .setLinks => Sys2Proof.Machine.execSetLinks s
  | .openPattern => Sys2Proof.Machine.execOpenPattern s
  | .addSteps => Sys2Proof.Machine.execAddSteps s
  | .closePattern => Sys2Proof.Machine.execClosePattern s
  | .discardPattern => Sys2Proof.Machine.execDiscardPattern s
  | .queuePanel => Sys2Proof.Machine.execQueuePanel s
  | .cancelPanel => Sys2Proof.Machine.execCancelPanel s
  | .loadRoll => Sys2Proof.Machine.execLoadRoll s
  | .rollReady => Sys2Proof.Machine.execRollReady s
  | .rollWithdraw => Sys2Proof.Machine.execRollWithdraw s
  | .rollAssign => Sys2Proof.Machine.execRollAssign s
  | .spliceNow => Sys2Proof.Machine.execSpliceNow s
  | .setUnwind => Sys2Proof.Machine.execSetUnwind s
  | .takeReport => Sys2Proof.Machine.execTakeReport s
  | .readTracking => Sys2Proof.Machine.execReadTracking s
  | .readPattern => Sys2Proof.Machine.execReadPattern s
  | .readQueue => Sys2Proof.Machine.execReadQueue s
  | .readPlan => Sys2Proof.Machine.execReadPlan s
  | .readMarks => Sys2Proof.Machine.execReadMarks s
  | .readHead => Sys2Proof.Machine.execReadHead s
  | .readRun => Sys2Proof.Machine.execReadRun s
  | .readMap => Sys2Proof.Machine.execReadMap s
  | .readHeat => Sys2Proof.Machine.execReadHeat s
  | .readUnwind => Sys2Proof.Machine.execReadUnwind s
  | .readStatus => Sys2Proof.Machine.execReadStatus s
  | .readFault => Sys2Proof.Machine.execReadFault s
  | .readTime => Sys2Proof.Machine.execReadTime s
  | .subscribe => Sys2Proof.Machine.execSubscribe s
  | .takeNotice => Sys2Proof.Machine.execTakeNotice s
  | .unassignedRequestCode => Sys2Proof.Machine.execUnassignedRequestCode s
  | .linkSelectNegated l => Sys2Proof.Machine.execLinkSelectNegated l s

end Sys2Proof.Machine
end

