-- ==== Sys2Proof/Safety.lean ====
section
/-!
DEFINITION. What statements speak of: the taking of a request, the encoder's table, and what a sound state of the part is,
block by block: the conditions the manual says always hold, each meant to be kept by every step.
-/

namespace Sys2Proof.Machine

/-! ## The taking of a request, as statements speak of it -/

/-- The arbiter's choice is link `l`, its front request `r` asks for `c`, and the link's checks pass it (R181, R183). -/
def Taking (c : RequestCode) (l : Link) (r : QueuedRequest) (s : State) : Prop :=
  s.inReset = false ∧ grantee s = some l ∧ (s.links.get l).requests.head? = some r ∧
    requestOf r.code.toNat = some c ∧ c.acceptedOn l = true ∧ r.overLength = false ∧ c.lengthOk r.args.length = true

/-- A row of the table of request codes (12.3): the code, the request, its command, the links that accept it, and the numbers of
argument bytes it admits. -/
structure RequestRow where
  code : Nat
  request : RequestCode
  command : Instr
  links : List Link
  lengths : List Nat

/-- 12.3: the requests of the LINE link. -/
def lineRequests : List RequestRow :=
  [⟨0x01, .run, .run, [.line], [0]⟩, ⟨0x02, .drain, .drain, [.line], [0]⟩, ⟨0x03, .stop, .stop, [.line], [0]⟩,
   ⟨0x04, .halt, .halt, [.line], [0]⟩, ⟨0x05, .resume, .resume, [.line], [0]⟩,
   ⟨0x06, .clearLine, .clearLine, [.line], [0]⟩, ⟨0x07, .setTracking, .setTracking, [.line], [20]⟩,
   ⟨0x08, .setHead, .setHead, [.line], [37]⟩, ⟨0x09, .setCalibration, .setCalibration, [.line], [41]⟩,
   ⟨0x0A, .setHeat, .setHeat, [.line], [40]⟩, ⟨0x0B, .setZoneDuty, .setZoneDuty, [.line], [3]⟩,
   ⟨0x0C, .setLinks, .setLinks, [.line], [1]⟩]

/-- 12.3, R196: the requests of the PATTERN link. -/
def patternRequests : List RequestRow :=
  [⟨0x10, .openPattern, .openPattern, [.pattern], [20]⟩,
   ⟨0x11, .addSteps, .addSteps, [.pattern], [8, 16, 23, 30, 38, 45, 53, 60]⟩,
   ⟨0x12, .closePattern, .closePattern, [.pattern], [1]⟩, ⟨0x13, .discardPattern, .discardPattern, [.pattern], [1]⟩,
   ⟨0x14, .queuePanel, .queuePanel, [.pattern], [7]⟩, ⟨0x15, .cancelPanel, .cancelPanel, [.pattern], [4]⟩]

/-- 12.3: the requests of the UNWIND link. -/
def unwindRequests : List RequestRow :=
  [⟨0x18, .loadRoll, .loadRoll, [.unwind], [9]⟩, ⟨0x19, .rollReady, .rollReady, [.unwind], [1]⟩,
   ⟨0x1A, .rollWithdraw, .rollWithdraw, [.unwind], [1]⟩, ⟨0x1B, .rollAssign, .rollAssign, [.unwind], [1]⟩,
   ⟨0x1C, .spliceNow, .spliceNow, [.unwind], [0]⟩, ⟨0x1D, .setUnwind, .setUnwind, [.unwind], [25]⟩]

/-- 12.3: the requests of two links, and of every link. -/
def sharedRequests : List RequestRow :=
  let every : List Link := [.line, .pattern, .unwind]
  [⟨0x20, .takeReport, .takeReport, [.line, .pattern], [0]⟩, ⟨0x28, .readTracking, .readTracking, every, [0]⟩,
   ⟨0x29, .readPattern, .readPattern, every, [2]⟩, ⟨0x2A, .readQueue, .readQueue, every, [1]⟩,
   ⟨0x2B, .readPlan, .readPlan, every, [1]⟩, ⟨0x2C, .readMarks, .readMarks, every, [1]⟩,
   ⟨0x2D, .readHead, .readHead, every, [0]⟩, ⟨0x2E, .readRun, .readRun, every, [0]⟩,
   ⟨0x2F, .readMap, .readMap, every, [1]⟩, ⟨0x30, .readHeat, .readHeat, every, [1]⟩,
   ⟨0x31, .readUnwind, .readUnwind, every, [0]⟩, ⟨0x32, .readStatus, .readStatus, every, [0]⟩,
   ⟨0x33, .readFault, .readFault, every, [0]⟩, ⟨0x34, .readTime, .readTime, every, [0]⟩,
   ⟨0x35, .subscribe, .subscribe, every, [1]⟩, ⟨0x36, .takeNotice, .takeNotice, every, [0]⟩]

/-- 12.3: the table of request codes. -/
def requestTable : List RequestRow := lineRequests ++ patternRequests ++ unwindRequests ++ sharedRequests

/-- R1: the encoder's sequence: a reference state, a new state, and the tick it gives. -/
def encoderTable : List ((Bool × Bool) × (Bool × Bool) × Direction) :=
  [((false, false), (true, false), .forward), ((false, false), (false, true), .reverse),
   ((true, false), (true, true), .forward), ((true, false), (false, false), .reverse),
   ((true, true), (false, true), .forward), ((true, true), (true, false), .reverse),
   ((false, true), (false, false), .forward), ((false, true), (true, true), .reverse)]

/-! ## What statements compute with -/

/-- The position at which an entry stands when its kind gives it `pos` (R54). -/
def entryPosition (last : Option Nat) (pos : Nat) : Nat :=
  match last with
  | some l => if pos ≤ l then l + 1 else pos
  | none => pos

/-- The takes of `n` pleats of one step in a row, from a remainder: their sum and the remainder after them. -/
def takesInRow (st : PatternStep) (shrink k q : Nat) : Nat → Nat → Nat × Nat
  | 0, r => (0, r)
  | n + 1, r =>
    let a := takesInRow st shrink k q n r
    let b := takeOf st shrink k q a.2
    (a.1 + b.1, b.2)

/-- A slot after `n` of its references are released (R25, R26). -/
def slotReleased (n : Nat) : Slot → Slot
  | .empty => .empty
  | .loading h st => .loading h st
  | .ready h st refs => .ready h st (refs - n)
  | .retiring h st refs => if 0 < n ∧ refs ≤ n then .empty else .retiring h st (refs - n)

/-- R192: the notices of `t` are those of `s` after the codes of `P`, and no others, are raised: each has joined the pending set of
every link that subscribes to its class, in rank order where the set was in it. -/
def Delivered (P : Notice → Prop) (s t : State) : Prop :=
  ∀ l : Link,
    (t.notices.get l).subscription = (s.notices.get l).subscription ∧
      (∀ n, n ∈ (t.notices.get l).pendingSet ↔
        n ∈ (s.notices.get l).pendingSet ∨ (P n ∧ (s.notices.get l).subscription.holds n = true)) ∧
      (((s.notices.get l).pendingSet.map Notice.rank).Pairwise (· < ·) →
        ((t.notices.get l).pendingSet.map Notice.rank).Pairwise (· < ·))

/-- R81, R111: the Web Map with a record made on the segment that carries a serial; where none does, it is made nowhere. -/
def recordedOn (n : Serial) (f : Segment → Segment) (m : WebMap) : WebMap :=
  { m with segments := m.segments.map (fun g => if g.serial = n then f g else g) }

/-- R81: a fold missed, counted up to 65,535 and flagged. -/
def foldMissed (g : Segment) : Segment :=
  { g with missed := countTo 65535 g.missed, flags := { g.flags with missedFold := true } }

/-- R84, R85: a fold in cycle aborted. -/
def foldAborted (g : Segment) : Segment := { g with flags := { g.flags with abortedFold := true } }

/-- R78: a fold fired, counted up to 65,535. -/
def foldFired (g : Segment) : Segment := { g with fired := countTo 65535 g.fired }

/-- R80: a fold fired late. -/
def foldLate (g : Segment) : Segment :=
  { g with
    fired := countTo 65535 g.fired, late := countTo 65535 g.late, flags := { g.flags with lateFold := true } }

/-- R81, R84, R85: the records that a halt makes: of a fold in OPENING or STRIKE that it is aborted, of a pending fold that it is
missed. -/
def foldsLost (s : State) : WebMap :=
  let aborted : WebMap :=
    match s.head.cycle, s.head.inCycle with
    | .opening _, some f => recordedOn f.serial foldAborted s.map
    | .strike _, some f => recordedOn f.serial foldAborted s.map
    | _, _ => s.map
  match s.head.pendingFold with
  | some p => recordedOn p.serial foldMissed aborted
  | none => aborted

/-- R84: the head after an entry into HALTED for a cause other than SAFE. -/
def headHalted (s : State) : Head :=
  let gap : Timer := ⟨s.lineTime, s.head.setup.gap⟩
  match s.head.cycle with
  | .opening _ => { s.head with cycle := .closing gap, pendingFold := none }
  | .strike _ => { s.head with cycle := .closing gap, blade := false, bladeGap := gap, pendingFold := none }
  | .closing _ => { s.head with pendingFold := none }
  | .idle => { s.head with pendingFold := none }

/-- R163: a PLANNED splice returned to DUE keeps its reason; any other record stands. -/
def dueAgain : Splice → Splice
  | .planned d _ _ _ => .due d
  | .idle => .idle
  | .due d => .due d
  | .fired d i x f fa kn => .fired d i x f fa kn
  | .cutting d i x f fa kn => .cutting d i x f fa kn

/-- R94, R95, R84: a cause other than SAFE, not in the set, is added in RUNNING, DRAINING or STOPPED: the line enters HALTED, with
its entry record, the excursion 0, the head's cycle and pending fold ended, and a PLANNED splice returned to DUE. -/
def haltEntered (c : Cause) (s : State) : State :=
  { s with
    run := ⟨.halted, s.run.causes.add c, some (c, s.lineTime), s.lineTime⟩
    feed := { s.feed with excursion := 0 }
    head := headHalted s
    map := foldsLost s
    unwind := { s.unwind with splice := dueAgain s.unwind.splice }
    notices := (raise .halted s).notices }

/-- R94: a cause other than SAFE is added: one in the set changes nothing; one not in it is added with HALTED raised, and enters
HALTED unless the line is HALTED already. -/
def causeAdded (c : Cause) (s : State) : State :=
  if s.run.causes.has c = true then s
  else if s.run.state = .halted then
    { s with run := { s.run with causes := s.run.causes.add c }, notices := (raise .halted s).notices }
  else haltEntered c s

/-- R141: a zone after a forced close at a moment: in SUPPLY the period runs on as though its supply had ended then; in every phase
the applied duty is 0. -/
def closedAt (now : LineTime) (w : Zone) : Zone :=
  if w.phase = .supply then
    { w with applied := 0, phase := .pause, period := { w.period with supplyUs := elapsed now w.period.start } }
  else { w with applied := 0 }

/-- R129: the temperature and the RANGE flag that a table of eight points gives a period: at its ends, or on the straight line
between the first two points that hold it. -/
def Converts (table : Vector CalPoint 8) (period : Nat) (r : Int × Bool) : Prop :=
  (table[0].period ≤ period → r = (table[0].temp, true)) ∧
    ((∀ j : Fin 7, period < table[j].period) → period ≤ table[7].period → r = (table[7].temp, true)) ∧
    ∀ i : Fin 7, (∀ j : Fin 7, j ≤ i → period < table[j].period) → table[i.val + 1].period ≤ period →
      (i = 6 → table[7].period < period) →
      r =
        (table[i].temp +
            roundHalfUpInt ((table[i.val + 1].temp - table[i].temp) * ((table[i].period : Int) - period))
              (table[i].period - table[i.val + 1].period),
          false)

/-- R133: a trailing distance lies in a zone, which is then enabled. -/
def LiesIn (h : HeatUnit) (z : ZoneId) (d : Nat) : Prop := (h.zones.get z).first ≤ d ∧ d < (h.zones.get z).bound

/-- R87: the sequence the speed ceiling is computed from: the pending fold's position, else the last fired position, and the
positions of the first eight FOLD entries. -/
def ceilingPositions (s : State) : List Nat :=
  (match s.head.pendingFold with
    | some p => [p.position]
    | none => s.head.lastFired.toList) ++
    (s.plan.filterMap (fun e => match e.kind with | .fold _ _ => some e.position | _ => none)).take 8

/-- R87: `c` is the speed ceiling of a sequence of positions under a cycle time: from the smallest spacing of two positions in a
row, one of 0 or less counting as 0; with no spacing it is the largest. -/
def IsCeiling (positions : List Nat) (cycleTime c : Nat) : Prop :=
  let spacings := (positions.zip positions.tail).map (fun p => p.2 - p.1)
  (spacings = [] → c = 4294967295) ∧
    ∀ m ∈ spacings, (∀ w ∈ spacings, m ≤ w) → c = min (m * 1000000 / cycleTime) 4294967295

/-- R82: the first FOLD of a plan has these codes. -/
def FirstFold (plan : List PlanEntry) (w h : StrokeCode) : Prop :=
  ∃ before e behind, plan = before ++ e :: behind ∧ e.kind = .fold w h ∧ ∀ x ∈ before, ∀ w h, x.kind ≠ .fold w h

/-- R82, R87: `t` is `s` with the latch, the outputs that present it, and the speed ceiling refreshed. -/
def Refreshed (s t : State) : Prop :=
  t =
      { s with
        head := { s.head with
          latchW := t.head.latchW, latchH := t.head.latchH, strokeW := t.head.strokeW, strokeH := t.head.strokeH
          ceiling := t.head.ceiling } } ∧
    (∀ p, s.head.pendingFold = some p → t.head.latchW = p.waist ∧ t.head.latchH = p.hem) ∧
    (∀ w h, s.head.pendingFold = none → FirstFold s.plan w h → t.head.latchW = w ∧ t.head.latchH = h) ∧
    (s.head.pendingFold = none → (∀ w h, ¬FirstFold s.plan w h) →
      t.head.latchW = s.head.latchW ∧ t.head.latchH = s.head.latchH) ∧
    (s.head.cycle = .idle → s.run.causes.safe = false →
      t.head.strokeW = t.head.latchW ∧ t.head.strokeH = t.head.latchH) ∧
    (s.head.cycle ≠ .idle ∨ s.run.causes.safe = true →
      t.head.strokeW = s.head.strokeW ∧ t.head.strokeH = s.head.strokeH) ∧
    IsCeiling (ceilingPositions s) (2 * s.head.setup.gap + s.head.setup.dwell) t.head.ceiling

/-- R162: the seam of a splice may lie at `x` in a plan entry: a FLAT run that allows one, not shorter than the seam minimum,
whose middle is `x` and leaves the fire position at least the fire margin ahead of the feed position. -/
def SeamFits (u : UnwindSettings) (feed : Nat) (e : PlanEntry) (x : Nat) : Prop :=
  ∃ len, e.kind = .flat len true ∧ u.seamMin ≤ len ∧ x = e.position + len / 2 ∧
    (feed : Int) + u.fireMargin ≤ (x : Int) - u.pathLength

/-- R162: the search takes `x`, from the first entry of the plan that qualifies. -/
def SearchFinds (u : UnwindSettings) (feed : Nat) (plan : List PlanEntry) (x : Nat) : Prop :=
  ∃ before e behind, plan = before ++ e :: behind ∧ SeamFits u feed e x ∧ ∀ w ∈ before, ∀ y, ¬SeamFits u feed w y

/-- R2, R3, R6, R9, R59, R156: what the Feed Tracker, an open measurement and an open revolution interval make of a forward
tick that brings the channels to (a, b), short of the end of the range. -/
def forwardTicked (a b : Bool) (s : State) : State :=
  { s with
    levels := { s.levels with feedA := a, feedB := b }
    feed := { s.feed with
      position := s.feed.position + 1, direction := .forward, gateCount := s.feed.gateCount + 1, standstill := false
      lastTick := s.lineTime, excursion := if producing s then s.feed.excursion - 1 else s.feed.excursion }
    marks := { s.marks with
      measurement := s.marks.measurement.map (fun q =>
        { q with
          width := q.width + 1
          spoiled := if q.spoiled = none ∧ s.tracking.markWidthMax < q.width + 1 then some .width else q.spoiled }) }
    unwind := { s.unwind with
      interval := s.unwind.interval.map (fun i => { i with n := if i.n ≤ 4194303 then i.n + 1 else i.n }) } }

/-- R2, R3, R6, R9, R59, R156: what they make of a reverse tick. -/
def reverseTicked (a b : Bool) (s : State) : State :=
  { s with
    levels := { s.levels with feedA := a, feedB := b }
    feed := { s.feed with
      position := s.feed.position - 1, direction := .reverse, gateCount := s.feed.gateCount - 1, standstill := false
      lastTick := s.lineTime, excursion := if producing s then s.feed.excursion + 1 else s.feed.excursion }
    marks := { s.marks with
      measurement := s.marks.measurement.map (fun q =>
        { q with spoiled := if q.spoiled = none then some .reverse else q.spoiled }) }
    unwind := { s.unwind with interval := s.unwind.interval.map (fun i => { i with spoiled := true }) } }

/-- The channel state (a, b) gives a forward tick, and the position after it is short of the end of the range (R1, R4). -/
def ForwardTick (a b : Bool) (s : State) : Prop :=
  s.inReset = false ∧ ((s.levels.feedA, s.levels.feedB), (a, b), Direction.forward) ∈ encoderTable ∧
    s.feed.position + 1 < 2 ^ 40 - 1

/-- No plan entry is reached at a feed position. -/
def NoEntryReached (n : Nat) (plan : List PlanEntry) : Prop := ∀ e ∈ plan.head?, n < e.position

/-- The window of the front expectation has not passed the sensor at a feed position (R62). -/
def NoMarkMissed (n : Nat) (s : State) (list : List Expectation) : Prop :=
  ∀ e ∈ list.head?, n + s.tracking.markOffset ≤ e.position + e.window

/-- Neither the fire, nor the knife, nor the seam position is reached at a feed position (R5). -/
def NoSplicePointReached (n : Nat) (u : UnwindUnit) : Prop :=
  (∀ r i x f, u.splice = .planned r i x f → n < f) ∧ (∀ r i x f fa kn, u.splice = .fired r i x f fa kn → n < kn) ∧
    ∀ p, u.seam = some p → n < p

/-- R74 to R77, R82, R87: a reached entry consumed from `s`, whose plan no longer holds it, and the head's refresh after it. -/
def consumed (e : PlanEntry) (s : State) : State :=
  refreshHead
    (match e.kind with
      | .panelStart => openPanel e.serial s
      | .fold w h => reachFold e.serial e.position w h s
      | .flat len _ => { s with head := { s.head with region := .flat e.position (e.position + len) } }
      | .panelEnd => closePanel e.serial s)

/-- R73, R74: what the head makes of the plan in one event: the reached entries of the front are consumed in queue order, up to one
that is not reached, or a PANEL_START that finds 24 segments and adds MAP_FULL. -/
inductive Consumes : State → State → Prop where
  /-- No entry is reached. -/
  | short (s : State) : NoEntryReached s.feed.position s.plan → Consumes s s
  /-- The front is a PANEL_START that finds the map full. -/
  | held (s : State) (e : PlanEntry) (rest : List PlanEntry) :
      s.plan = e :: rest → e.position ≤ s.feed.position → e.kind = .panelStart → 24 ≤ s.map.segments.length →
      Consumes s (causeAdded .mapFull s)
  /-- The front is consumed, and the head looks at the next. -/
  | taken (s t : State) (e : PlanEntry) (rest : List PlanEntry) :
      s.plan = e :: rest → e.position ≤ s.feed.position → (e.kind = .panelStart → s.map.segments.length < 24) →
      Consumes (consumed e { s with plan := rest }) t → Consumes s t

/-- R162: a splice is DUE, the other side's roll READY, the line producing, and no seam record present. -/
def SearchDue (s : State) (d : SpliceReason) (i : Side) : Prop :=
  s.unwind.splice = .due d ∧ runningSide s.unwind = some i ∧ rollIs .ready (s.unwind.rolls.get (otherSide i)) = true ∧
    producing s = true ∧ s.unwind.seam = none

/-- R162: `t` is `s` after the Unwind Unit has searched the plan, where it may: PLANNED at the first run that qualifies. -/
def Searched (s t : State) : Prop :=
  (∀ d i x, SearchDue s d i → SearchFinds s.unwind.settings s.feed.position s.plan x →
      t =
        { s with
          unwind := { s.unwind with splice := .planned d (otherSide i) x (x - s.unwind.settings.pathLength) }
          notices := (raise .splicePlanned s).notices }) ∧
    (((∀ d i, ¬SearchDue s d i) ∨ ∀ x, ¬SearchFinds s.unwind.settings s.feed.position s.plan x) → t = s)

/-- R55, R66, R67: the head, where it is reached, and the Unwind Unit, where it is due, take one event in either order: log 4. -/
def HeadAndUnwind (reached due : Prop) (unwound : State → State → Prop) (s t : State) : Prop :=
  (¬reached → ¬due → t = s) ∧ (reached → ¬due → Consumes s t) ∧ (¬reached → due → unwound s t) ∧
    (reached → due →
      let w := { s with choices := s.choices + 1 }
      (∃ m, Consumes w m ∧ unwound m t) ∨ ∃ m, unwound w m ∧ Consumes m t)

/-- R55: an entry appended at `pos` is an event at the head, where the fabric has reached it, and at the Unwind Unit, which searches
for a DUE splice. -/
def AppendTaken (pos : Nat) (s t : State) : Prop :=
  HeadAndUnwind (pos ≤ s.feed.position) (∃ d i, SearchDue s d i) Searched s t

/-- R66, R67: a shift of the plan is an event at the head, where it brings an entry to the fabric, and at the Unwind Unit, where it
brings the fire position there or a DUE splice may be searched. -/
def ShiftTaken (s t : State) : Prop :=
  HeadAndUnwind (∃ e ∈ s.plan.head?, e.position ≤ s.feed.position)
    ((∃ r i x f, s.unwind.splice = .planned r i x f ∧ f ≤ s.feed.position) ∨ ∃ d i, SearchDue s d i)
    (fun m n => Searched (fireCheck m) n) s t

/-- R65, R68, R60: what the accept of mark `q` against the front expectation `e`, with `rest` behind it, makes of the plan, the
planner, a PLANNED splice and the Mark Unit; `k` is the correction factor after it. -/
def markAccepted (q : Measurement) (e : Expectation) (rest : List Expectation) (k : Int) (s : State) : State :=
  let move (n : Nat) : Nat := ((n : Int) + ((q.headPos : Int) - e.position)).toNat
  { s with
    levels := { s.levels with mark := false }
    plan := s.plan.map (fun p => { p with position := move p.position })
    marks :=
      { measurement := none
        list := rest.map (fun x => { x with position := move x.position })
        k := k.toNat
        last := if rest.head?.any (fun x => x.index == 0) then none else some ⟨q.headPos, e.serial, 0⟩
        misses := 0
        outcome := some ⟨.accepted, q.headPos, q.width⟩ }
    planner := { s.planner with
      cursor := s.planner.cursor.map move
      lastAppended := s.planner.lastAppended.map move
      contexts :=
        s.planner.contexts.map
          (fun c => { c with planning := c.planning.map (fun p => { p with nextMark := move p.nextMark }) }) }
    unwind := { s.unwind with
      splice :=
        match s.unwind.splice with
        | .planned r i x f => .planned r i (move x) (move f)
        | other => other } }

/-- R118, R120, R121, R123: the exit of the oldest segment `g`, with `rest` behind it, before the head retries a held entry. -/
def segmentLeft (g : Segment) (rest : List Segment) (s : State) : State :=
  let flags := if g.dose < g.doseMin then { g.flags with underSet := true } else g.flags
  let room := decide (s.exitUnit.reports.length < 16)
  let report : Report :=
    ⟨g.serial, g.tag, g.slot, decide (flags = PanelFlags.none), flags, g.dose, g.fired, g.late, g.missed, s.lineTime⟩
  { s with
    exitUnit :=
      { reports := if room then s.exitUnit.reports ++ [report] else s.exitUnit.reports
        cut := some ⟨s.lineTime, s.tracking.cutDwell⟩
        gate := decide (flags = PanelFlags.none) }
    map := { s.map with
      segments := rest
      reported := if room then s.map.reported + 1 else s.map.reported
      dropped := if room then s.map.dropped else s.map.dropped + 1 }
    notices := if s.exitUnit.reports = [] then (raise .reportReady s).notices else s.notices }

/-- R117, R74: the oldest segments leave one after another while the oldest is closed and at the exit distance; after each removal
the head tries the plan again. -/
inductive Exits : State → State → Prop where
  /-- The oldest segment is not at the exit. -/
  | done (s : State) :
      (∀ g ∈ s.map.segments.head?, ∀ p ∈ g.trailing, s.carrier.position - p < s.tracking.exitDistance) → Exits s s
  /-- The oldest segment leaves, the head tries, and the new oldest is judged. -/
  | leaves (s m t : State) (g : Segment) (rest : List Segment) (p : Nat) :
      s.map.segments = g :: rest → g.trailing = some p → s.tracking.exitDistance ≤ s.carrier.position - p →
      Consumes (segmentLeft g rest s) m → Exits m t → Exits s t

/-- R159: `t` is `s` after the running roll has been judged against the change reserve. -/
def ChangeJudged (s t : State) : Prop :=
  (∀ i roll, runningSide s.unwind = some i → s.unwind.rolls.get i = some roll → s.unwind.splice = .idle →
      roll.length ≤ s.unwind.settings.changeReserve →
      let due : State := { s with unwind := { s.unwind with splice := .due .reserve } }
      (rollIs .ready (s.unwind.rolls.get (otherSide i)) = false → t = { due with notices := (raise .rollLow s).notices }) ∧
        (rollIs .ready (s.unwind.rolls.get (otherSide i)) = true → Searched due t)) ∧
    ((∀ roll, runningRoll s.unwind = some roll →
        s.unwind.splice ≠ .idle ∨ s.unwind.settings.changeReserve < roll.length) → t = s)

/-- R161: `t` is `s` after the running roll has been judged against the end reserve. -/
def EndJudged (s t : State) : Prop :=
  (∀ roll, runningRoll s.unwind = some roll → roll.length ≤ s.unwind.settings.endReserve →
      s.unwind.splice.inProgress = false →
      t = causeAdded .rollOut { s with unwind := { s.unwind with splice := dueAgain s.unwind.splice } }) ∧
    ((∀ roll, runningRoll s.unwind = some roll →
        s.unwind.settings.endReserve < roll.length ∨ s.unwind.splice.inProgress = true) → t = s)

/-- R159, R161: `t` is `s` after the running roll has been judged against both reserves, in the order of log 15. -/
def ReservesJudged (s t : State) : Prop := ∃ m, ChangeJudged s m ∧ EndJudged m t

/-- R137, R138, R141: `t` is `s` after zone `z` has judged its hot latch on the temperature its probe holds. -/
def LatchJudged (z : ZoneId) (s t : State) : Prop :=
  let w := s.heat.zones.get z
  let temp := (s.heat.probes.get z).temp
  let withZone (w' : Zone) : State := { s with heat := { s.heat with zones := s.heat.zones.set z w' } }
  (w.limit ≤ temp → w.hot = false →
      t =
        { withZone (closedAt s.lineTime { w with hot := true }) with notices := (raise .zoneHot s).notices }) ∧
    (w.limit ≤ temp → w.hot = true → t = s) ∧
    (temp < w.limit → temp ≤ w.limit - s.heat.hysteresis → t = withZone { w with hot := false }) ∧
    (temp < w.limit → w.limit - s.heat.hysteresis < temp → t = s)

/-- R135: a zone judges its latch anew where its probe holds a temperature: one measured since the reset, not stale (log 17). -/
def LatchJudgedAnew (z : ZoneId) (s t : State) : Prop :=
  let held : Prop := (s.heat.probes.get z).lastPeriod ≠ none ∧ (s.heat.probes.get z).stale = false
  (held → LatchJudged z s t) ∧ (¬held → t = s)

/-- R63, R60: the front expectation `e` is removed from state `s` as a miss with outcome `o`, `rest` behind it. -/
def MissTaken (s : State) (e : Expectation) (rest : List Expectation) (o : OutcomeRecord) (t : State) : Prop :=
  t = { s with marks := t.marks, planner := t.planner, map := t.map, notices := t.notices } ∧
    t.marks =
      { s.marks with
        list := rest, misses := min (s.marks.misses + 1) 3, outcome := some o
        last :=
          if rest.head?.any (fun x => x.index == 0) then none
          else s.marks.last.bind (fun m => if m.tally < 255 then some { m with tally := m.tally + 1 } else none) } ∧
    (s.marks.misses + 1 < 3 → t.planner = s.planner ∧ t.map = s.map ∧ t.notices = s.notices) ∧
    (3 ≤ s.marks.misses + 1 → t.notices = (raise .regLost s).notices ∧
      ((∃ c ∈ s.planner.contexts, c.serial = e.serial ∧ c.startConsumed = false) →
        t.map = s.map ∧
          t.planner =
            { s.planner with
              contexts := s.planner.contexts.map (fun c =>
                if c.serial = e.serial ∧ c.startConsumed = false then
                  { c with flags := { c.flags with regLost := true } }
                else c) }) ∧
      ((∀ c ∈ s.planner.contexts, c.serial = e.serial → c.startConsumed = true) →
        t.planner = s.planner ∧
          t.map = recordedOn e.serial (fun g => { g with flags := { g.flags with regLost := true } }) s.map))

/-! ## The part's own events, as statements speak of them -/

/-- R41: the copy being planned: the context that holds a planning state. -/
def CopyPlanned (s : State) (c : Context) (p : PlanningState) : Prop :=
  ∃ before behind, s.planner.contexts = before ++ c :: behind ∧ c.planning = some p ∧ ∀ x ∈ before, x.planning = none

/-- R44: the repeat length of the copy being planned, or of the copy that would begin next. -/
def NextRepeat (s : State) (r : Nat) : Prop :=
  (∃ c p, CopyPlanned s c p ∧ r = c.repeatLen) ∨
    ((∀ c ∈ s.planner.contexts, c.planning = none) ∧
      ∃ o h, s.orders.head? = some o ∧ s.slots[o.slot].header? = some h ∧ r = h.repeatLen)

/-- R44: the second condition of the planner fails: a registered copy, and the expectation list full. -/
def ListFull (s : State) : Prop := ∃ r, NextRepeat s r ∧ r ≠ 0 ∧ 16 ≤ s.marks.list.length

/-- R44: there is material to plan. -/
def Material (s : State) : Prop :=
  (∃ c ∈ s.planner.contexts, c.planning ≠ none) ∨ (s.orders ≠ [] ∧ s.planner.contexts.length < 8)

/-- R44: DRAINING keeps the planner from beginning a copy. -/
def DrainHolds (s : State) : Prop := s.run.state = .draining ∧ ∀ c ∈ s.planner.contexts, c.planning = none

/-- R46: the copy's next event appends an expectation; the cursor is set while a copy is being planned. -/
def MarkNext (s : State) (c : Context) (p : PlanningState) : Prop :=
  c.repeatLen ≠ 0 ∧ p.nextMark < s.planner.cursor.getD 0

/-- R46, R54: the position of the entry that would continue the copy: of a FOLD at its take, of a FLAT or a PANEL_END at the
cursor. -/
def nextEntryAt (s : State) (c : Context) (p : PlanningState) : Nat :=
  let cursor := s.planner.cursor.getD 0
  entryPosition s.planner.lastAppended
    (match s.slots[c.slot].steps[p.stepIndex]? with
      | some st =>
        if st.kind = .flat then cursor
        else
          cursor +
            (takeOf st (((s.slots[c.slot].header?).map (·.shrink)).getD 0) c.k s.tracking.feedTick p.remainder).1
      | none => cursor)

/-- R46: the planner waits at the end of the range of positions. -/
def RangeEnd (s : State) : Prop := ∃ c p, CopyPlanned s c p ∧ ¬MarkNext s c p ∧ 2 ^ 40 - 1 < nextEntryAt s c p

/-- R44, R46: the planner may take its next event. -/
def PlannerFree (s : State) : Prop :=
  s.plan.length < 128 ∧ ¬ListFull s ∧ Material s ∧ ¬DrainHolds s ∧ ¬RangeEnd s

/-- R57: the planner condition by its number: the first condition of R44 that fails, in its order, else whether the planner waits
at the end of the range. -/
def PlannerReports (s : State) (n : Nat) : Prop :=
  (128 ≤ s.plan.length → n = 1) ∧
    (s.plan.length < 128 → ListFull s → n = 2) ∧
    (s.plan.length < 128 → ¬ListFull s → ¬Material s → n = 3) ∧
    (s.plan.length < 128 → ¬ListFull s → Material s → DrainHolds s → n = 4) ∧
    (s.plan.length < 128 → ¬ListFull s → Material s → ¬DrainHolds s → RangeEnd s → n = 5) ∧
    (PlannerFree s → n = 0)

/-- R14, R44, R46, R181: an event of the part's own that can be taken now: an expiry whose time has passed, the planner's next
event, the grant of the request the arbiter chooses. No other command is one. -/
def OwnEvent (s : State) (e : Instr) : Prop :=
  let since (t : LineTime) : Nat := elapsed s.lineTime t
  s.inReset = false ∧
    ((e = .speedGateEnd ∧ 10000 ≤ since s.feed.gateStart) ∨
      (e = .feedStandstillExpiry ∧ s.feed.standstill = false ∧ s.tracking.standstillMs * 1000 ≤ since s.feed.lastTick) ∨
      (e = .carrierStandstillExpiry ∧ s.carrier.standstill = false ∧
        s.tracking.standstillMs * 1000 ≤ since s.carrier.lastTick) ∨
      (e = .openingGapEnd ∧ ∃ g, s.head.cycle = .opening g ∧ g.dur ≤ since g.start) ∨
      (e = .dwellEnd ∧ ∃ g, s.head.cycle = .strike g ∧ g.dur ≤ since g.start) ∨
      (e = .closingGapEnd ∧ ∃ g, s.head.cycle = .closing g ∧ g.dur ≤ since g.start) ∨
      (e = .clampGapExpiry ∧ s.head.cycle = .idle ∧ s.run.causes.safe = false ∧ s.head.clamp = false ∧
        s.head.bladeGap.dur ≤ since s.head.bladeGap.start) ∨
      (e = .cutDwellEnd ∧ ∃ c, s.exitUnit.cut = some c ∧ c.dur ≤ since c.start) ∨
      (∃ z, let w := s.heat.zones.get z
        (e = .probeStalenessExpiry z ∧ ∃ t, (s.heat.probes.get z).lastEdge = some t ∧ 250000 ≤ since t) ∨
          (e = .valvePeriodStart z ∧ w.phase = .rest ∧ w.period.vMs * 1000 ≤ since w.period.start) ∨
          (e = .supplyEnd z ∧ w.phase = .supply ∧ w.period.supplyUs ≤ since w.period.start) ∨
          (e = .pauseEnd z ∧ w.phase = .pause ∧ w.period.supplyUs + w.period.gMs * 1000 ≤ since w.period.start) ∨
          (e = .ventEnd z ∧ w.phase = .vent ∧ (w.period.vMs - w.period.gMs) * 1000 ≤ since w.period.start)) ∨
      (e = .doseTick ∧ 100000 ≤ since s.heat.lastDose) ∨
      (e = .intervalOverflow ∧ ∃ i, s.unwind.interval = some i ∧ 4194303 < i.n) ∨
      (e = .pasteDwellExpiry ∧ ∃ side p, s.unwind.paste = some (side, p) ∧ p.dur ≤ since p.start) ∨
      (e = .knifeDwellExpiry ∧ ∃ k, s.unwind.knife = some k ∧ k.dur ≤ since k.start) ∨
      (e = .plannerBeginCopy ∧ PlannerFree s ∧ (∀ c ∈ s.planner.contexts, c.planning = none) ∧
        ∃ o h, s.orders.head? = some o ∧ s.slots[o.slot].header? = some h) ∨
      (PlannerFree s ∧
        ∃ c p, CopyPlanned s c p ∧
          ((e = .plannerAppendExpectation ∧ MarkNext s c p) ∨
            (¬MarkNext s c p ∧
              ((e = .plannerAppendFold ∧ ∃ st, s.slots[c.slot].steps[p.stepIndex]? = some st ∧ st.kind ≠ .flat) ∨
                (e = .plannerAppendFlat ∧ ∃ st, s.slots[c.slot].steps[p.stepIndex]? = some st ∧ st.kind = .flat) ∨
                (e = .plannerAppendPanelEnd ∧ s.slots[c.slot].steps[p.stepIndex]? = none))))) ∨
      ∃ l r, grantee s = some l ∧ (s.links.get l).requests.head? = some r ∧
        ((∃ c, requestOf r.code.toNat = some c ∧ e = c.command) ∨
          (requestOf r.code.toNat = none ∧ e = .unassignedRequestCode)))

/-! ## Invariants -/

/-- R93: in HALTED the halt-cause set holds at least one cause, in the other three states it is empty. -/
def HaltInv (s : State) : Prop := s.run.state = .halted ↔ s.run.causes ≠ CauseSet.none

/-- The cycle is in STRIKE. -/
def BladeCycle.isStrike : BladeCycle → Bool
  | .strike _ => true
  | _ => false

/-- R78, R79, R85: BLADE is asserted exactly in STRIKE and CLAMP only in IDLE; a fold is in cycle exactly outside IDLE, a fold
pends only outside IDLE; with SAFE in the set the cycle is IDLE, CLAMP negated and both stroke groups negated. -/
def HeadInv (s : State) : Prop :=
  s.head.blade = s.head.cycle.isStrike ∧
    (s.head.clamp = true → s.head.cycle = .idle) ∧
    s.head.inCycle.isSome = !s.head.cycle.isIdle ∧
    (s.head.pendingFold.isSome = true → s.head.cycle ≠ .idle) ∧
    (s.run.causes.safe = true →
      s.head.cycle = .idle ∧ s.head.clamp = false ∧ s.head.strokeW = 0 ∧ s.head.strokeH = 0)

/-- R40, R44, R34, R53, R60, R111, R123: the bounded queues hold no more than the manual gives them. -/
def RoomInv (s : State) : Prop :=
  s.orders.length ≤ 32 ∧ s.planner.contexts.length ≤ 8 ∧ s.plan.length ≤ 128 ∧ s.marks.list.length ≤ 16 ∧
    s.map.segments.length ≤ 24 ∧ s.exitUnit.reports.length ≤ 16

/-- R176: on every link the requests queued and the responses waiting hold at most four credits. -/
def CreditInv (s : State) : Prop :=
  ∀ l : Link, (s.links.get l).requests.length + (s.links.get l).responses.length ≤ 4

/-- R180: the response that a fetch is shifting out stands at the front of its link's response queue. -/
def FetchInv (s : State) : Prop :=
  ∀ (l : Link) (r : Response), (s.links.get l).transaction = some (.fetching (some r)) →
    (s.links.get l).responses.head? = some r

/-- R91, R132, R150, R174, R191 and the hard-reset columns of the tables 1.1, 4.1, 5.1 and 8.1: the trackers, the settings, the marks,
the head, the probes and zones, the unwind and the subscriptions as a hard reset leaves them; no notice pends. -/
def HardResetValues (t : State) : Prop :=
  (t.feed.direction = .forward ∧ t.feed.excursion = 0 ∧ t.feed.gateCount = 0 ∧ t.feed.speed = 0 ∧ t.feed.standstill = true ∧
      t.feed.position = 0 ∧ t.carrier.position = 0 ∧ t.carrier.standstill = true) ∧
    t.tracking = ⟨10000, 5000, 20, 400, 200, 500, 400000, 30000⟩ ∧ t.marks = ⟨none, [], 65536, none, 0, none⟩ ∧
    (t.head.cycle = .idle ∧ t.head.inCycle = none ∧ t.head.pendingFold = none ∧ t.head.lastFired = none ∧
      t.head.latchW = 0 ∧ t.head.latchH = 0 ∧ t.head.clamp = false ∧ t.head.blade = false ∧ t.head.strokeW = 0 ∧
      t.head.strokeH = 0 ∧ t.head.region = .folding ∧ t.head.ceiling = 4294967295 ∧ t.head.overCount = 0 ∧
      t.head.armed = true ∧ t.head.setup.gap = 2000 ∧ t.head.setup.dwell = 18000 ∧
      ∀ c : Fin 16, t.head.setup.table[c] = 2500 * c.val) ∧
    (t.heat.vMs = 2000 ∧ t.heat.gMs = 50 ∧ t.heat.cap = 150 ∧ t.heat.hysteresis = 20) ∧
    (∀ z : ZoneId,
      let w := t.heat.zones.get z
      w.first = (match z with | .z1 => 20000 | .z2 => 110000 | .z3 => 200000 | .z4 => 290000) ∧
        w.bound = (match z with | .z1 => 110000 | .z2 => 200000 | .z3 => 290000 | .z4 => 380000) ∧ w.limit = 1600 ∧ w.requested = 0 ∧ w.applied = 0 ∧ w.hot = false) ∧
    (∀ z : ZoneId,
      let p := t.heat.probes.get z
      p.table.toList = [⟨500, 0⟩, ⟨420, 300⟩, ⟨370, 600⟩, ⟨330, 850⟩, ⟨300, 1100⟩, ⟨260, 1235⟩, ⟨230, 1500⟩, ⟨200, 1800⟩] ∧
        p.lastEdge = none ∧ p.lastPeriod = none ∧ p.temp = 0 ∧ p.range = false ∧ p.stale = true) ∧
    t.unwind = ⟨⟨none, none⟩, none, .idle, none, none, none, ⟨300000, 5000, 2000, 1500, 400, 50000, 30000000, 5000000⟩⟩ ∧
    (t.notices.line = ⟨⟨true, true, true, true, true⟩, []⟩ ∧
      t.notices.pattern = ⟨{ run := false, roll := false, heat := false, flow := true, link := true }, []⟩ ∧
      t.notices.unwind = ⟨{ run := false, roll := true, heat := false, flow := false, link := true }, []⟩)

/-- R116: modulo 2^32, started is the segments in the map plus reported plus dropped plus cleared. -/
def CounterInv (s : State) : Prop :=
  s.map.started = BitVec.ofNat 32 s.map.segments.length + s.map.reported + s.map.dropped + s.map.cleared

/-- R64, R68: k stays in its range. -/
def FactorInv (s : State) : Prop := 62259 ≤ s.marks.k ∧ s.marks.k ≤ 68813

/-- R22, R18: the slots hold at most 1,024 step records together and at most 128 each. -/
def PoolInv (s : State) : Prop := stepsHeld s.slots ≤ 1024 ∧ ∀ i : Fin 16, s.slots[i].steps.length ≤ 128

/-- R25: the Panel Queue entries and panel contexts that name a slot. -/
def namings (s : State) (i : Fin 16) : Nat :=
  s.orders.countP (fun o => o.slot == i) + s.planner.contexts.countP (fun c => c.slot == i)

/-- R25, R18: every slot's reference count is the number of entries and contexts naming it, and a RETIRING slot has one. -/
def ReferenceInv (s : State) : Prop :=
  ∀ i : Fin 16, s.slots[i].refs = namings s i ∧ (s.slots[i].number = 3 → 1 ≤ s.slots[i].refs)

/-- R54: plan positions rise strictly, and none is beyond the last appended position. -/
def PlanInv (s : State) : Prop :=
  (s.plan.map (·.position)).Pairwise (· < ·) ∧
    ∀ e ∈ s.plan, ∃ last, s.planner.lastAppended = some last ∧ e.position ≤ last

/-- R152: at most one roll record is RUNNING. -/
def RollInv (s : State) : Prop :=
  ¬(rollIs .running s.unwind.rolls.a = true ∧ rollIs .running s.unwind.rolls.b = true)

/-- R164 to R168: a paster or the knife is asserted only in a splice that is FIRED or CUTTING, and with SAFE in the set no
splice is. -/
def SpliceInv (s : State) : Prop :=
  (s.unwind.splice.inProgress = false → s.unwind.paste = none ∧ s.unwind.knife = none) ∧
    (s.run.causes.safe = true → s.unwind.splice.inProgress = false)

/-- R140 to R142: a zone supplies steam only with SAFE out of the set, its hot latch clear and its probe not stale. -/
def ValveInv (s : State) : Prop :=
  ∀ z : ZoneId, (s.heat.zones.get z).phase = .supply →
    s.run.causes.safe = false ∧ (s.heat.zones.get z).hot = false ∧ (s.heat.probes.get z).stale = false

/-- R191 to R193: every pending code belongs to its link's subscription, and the set is in strict rank order. -/
def NoticeInv (s : State) : Prop :=
  ∀ l : Link,
    (∀ n ∈ (s.notices.get l).pendingSet, (s.notices.get l).subscription.holds n = true) ∧
      ((s.notices.get l).pendingSet.map Notice.rank).Pairwise (· < ·)

/-- R181, R182: the head wait counts under the starvation limit N: LINE never passes N, UNWIND N + 1, PATTERN N + 2, with the
counts that can stand together; a link with an empty queue counts 0. -/
def WaitInv (s : State) : Prop :=
  2 ≤ s.starvation ∧ s.starvation ≤ 15 ∧
    (∀ l : Link, (s.links.get l).requests = [] → (s.links.get l).waitCount = 0) ∧
    s.links.line.waitCount ≤ s.starvation ∧
    s.links.unwind.waitCount ≤ s.starvation + 1 ∧
    s.links.pattern.waitCount ≤ s.starvation + 2 ∧
    (s.links.unwind.waitCount = s.starvation + 1 → s.links.line.waitCount = 0) ∧
    (s.starvation + 1 ≤ s.links.pattern.waitCount → s.links.line.waitCount = 0 ∨ s.links.unwind.waitCount = 0) ∧
    (s.links.pattern.waitCount = s.starvation + 2 → s.links.line.waitCount ≤ 1 ∧ s.links.unwind.waitCount ≤ 1)

end Sys2Proof.Machine
end

