-- ==== Sys2Proof/Certificates/Slice0/Obligations.lean ====
section
/-!
DEFINITION. The statements for the provers. Each docstring names the rules it formalises and, where a clause rests on a
choice of the model's, the log entry.
-/

open Sys2Proof Sys2Proof.Machine

/-! ## The step -/

/-- One step of a block with a command waiting is that command's effect with the queue's rest. -/
def Obligations.StepRunsFrontCommand : Prop :=
  ∀ (c : Instr) (rest : List Instr) (s : State), s.pending = c :: rest → step s = exec c { s with pending := rest }

/-- With no command waiting: a microsecond passes when nothing of the part's own is due; the only event due is taken; of
several one is taken and the choice counted. What is due (OwnEvent): an expiry whose time has passed (R8, R9, R12, R14, R79, R118,
R130, R139, R144, R165), the planner's next event where R44 and R46 let it take one, and the grant of the request that the arbiter
chooses (R181). The model's choice: logs 1 and 5; the overflow of an interval as an event of its own is log 14, that
CLAMP's wait is judged anew modulo 2^48 after it has passed log 39, that a head entry whose slot holds no header begins no copy
log 33. -/
def Obligations.IdleStep : Prop :=
  (∀ s : State, s.pending = [] →
    ((∀ e, ¬OwnEvent s e) → step s = .next { s with lineTime := s.lineTime + 1 }) ∧
      (∀ e, OwnEvent s e → (∀ f, OwnEvent s f → f = e) → step s = exec e s) ∧
      (∀ e f, OwnEvent s e → OwnEvent s f → e ≠ f →
        ∃ g, OwnEvent s g ∧ step s = exec g { s with choices := s.choices + 1 })) ∧
    ∀ (s : State) (e : Instr), e ∈ internalEvents s ↔ OwnEvent s e

/-- Every command ends in a next state and leaves the queue of waiting commands alone.
The queue is the model's own field (log 32). -/
def Obligations.CommandLeavesQueue : Prop :=
  ∀ (c : Instr) (s : State), ∃ t, exec c s = .next t ∧ t.pending = s.pending

/-! ## Resets -/

/-- R31: power-on reset leaves every slot EMPTY with a count of 0 and the pool wholly free, and raises no notice of its own:
with SAFE_STOP_n negated at its end every pending set is empty. -/
def Obligations.PowerOnStore : Prop :=
  ∀ (v : InputLevels) (s : State),
    ∃ t, exec (.powerOnReset v) s = .next t ∧
      (∀ i : Fin 16, t.slots[i] = Slot.empty ∧ t.slots[i].refs = 0) ∧ poolFree t.slots = 1024 ∧
      (v.safeStop = false → ∀ l : Link, (t.notices.get l).pendingSet = [])

/-- The values after a power-on reset with SAFE_STOP_n negated, from the tables 1.1, 4.1, 5.1, 5.7, 6.1, 7.1, 8.1 to 8.3, 9.1,
10.1, R45 and R191.
That a power-on reset leaves the part out of reset, RESET_n asserted or not, is the model's choice (log 40). -/
def Obligations.PowerOnValues : Prop :=
  ∀ (v : InputLevels) (s : State), v.safeStop = false →
    ∃ t, exec (.powerOnReset v) s = .next t ∧
      t.inReset = false ∧ t.lineTime = 0 ∧ t.resetCause = ⟨.power, 0⟩ ∧ t.levels = v ∧
      t.feed.position = 0 ∧ t.feed.direction = .forward ∧ t.feed.excursion = 0 ∧ t.feed.gateCount = 0 ∧
      t.feed.speed = 0 ∧ t.feed.standstill = true ∧ t.carrier.position = 0 ∧ t.carrier.standstill = true ∧
      t.tracking = ⟨10000, 5000, 20, 400, 200, 500, 400000, 30000⟩ ∧
      t.orders = [] ∧ t.plan = [] ∧ t.planner = ⟨none, none, 0, []⟩ ∧
      t.marks = ⟨none, [], 65536, none, 0, none⟩ ∧
      t.head.cycle = .idle ∧ t.head.inCycle = none ∧ t.head.pendingFold = none ∧ t.head.lastFired = none ∧
      t.head.latchW = 0 ∧ t.head.latchH = 0 ∧ t.head.clamp = false ∧ t.head.blade = false ∧ t.head.strokeW = 0 ∧
      t.head.strokeH = 0 ∧ t.head.region = .folding ∧ t.head.ceiling = 4294967295 ∧ t.head.overCount = 0 ∧
      t.head.armed = true ∧ t.head.setup.gap = 2000 ∧ t.head.setup.dwell = 18000 ∧
      t.run = ⟨.stopped, CauseSet.none, none, 0⟩ ∧ t.map = ⟨[], 0, 0, 0, 0⟩ ∧ t.exitUnit = ⟨[], none, false⟩ ∧
      (∀ z : ZoneId, (t.heat.zones.get z).requested = 0 ∧ (t.heat.zones.get z).applied = 0 ∧
        (t.heat.zones.get z).hot = false ∧ (t.heat.zones.get z).limit = 1600 ∧
        (t.heat.probes.get z).stale = true ∧ (t.heat.probes.get z).lastEdge = none ∧
        (t.heat.probes.get z).lastPeriod = none ∧ (t.heat.probes.get z).temp = 0 ∧
        (t.heat.probes.get z).range = false) ∧
      t.heat.vMs = 2000 ∧ t.heat.gMs = 50 ∧ t.heat.cap = 150 ∧ t.heat.hysteresis = 20 ∧
      t.unwind.rolls = ⟨none, none⟩ ∧ t.unwind.interval = none ∧ t.unwind.splice = .idle ∧ t.unwind.seam = none ∧
      t.unwind.paste = none ∧ t.unwind.knife = none ∧
      t.unwind.settings = ⟨300000, 5000, 2000, 1500, 400, 50000, 30000000, 5000000⟩ ∧
      (∀ l : Link, (t.links.get l).requests = [] ∧ (t.links.get l).responses = [] ∧
        (t.links.get l).overflow = false ∧ (t.links.get l).waitCount = 0) ∧
      t.starvation = 6 ∧ t.capture = ⟨none, 0⟩ ∧
      (t.heat.zones.z1.first = 20000 ∧ t.heat.zones.z1.bound = 110000) ∧
      (t.heat.zones.z2.first = 110000 ∧ t.heat.zones.z2.bound = 200000) ∧
      (t.heat.zones.z3.first = 200000 ∧ t.heat.zones.z3.bound = 290000) ∧
      (t.heat.zones.z4.first = 290000 ∧ t.heat.zones.z4.bound = 380000) ∧
      (∀ z : ZoneId, (t.heat.probes.get z).table.toList =
        [⟨500, 0⟩, ⟨420, 300⟩, ⟨370, 600⟩, ⟨330, 850⟩, ⟨300, 1100⟩, ⟨260, 1235⟩, ⟨230, 1500⟩, ⟨200, 1800⟩]) ∧
      (∀ c : Fin 16, t.head.setup.table[c] = 2500 * c.val) ∧
      t.notices.line.subscription = ⟨true, true, true, true, true⟩ ∧
      t.notices.pattern.subscription =
        { run := false, roll := false, heat := false, flow := true, link := true } ∧
      t.notices.unwind.subscription =
        { run := false, roll := true, heat := false, flow := false, link := true }

/-- R32: a hard reset keeps every READY slot, with a count of 0, empties every other, and leaves the pool 1,024 less the steps
of the READY slots; the pending sets are emptied, so no PATTERN_RELEASED is raised. -/
def Obligations.HardResetStore : Prop :=
  ∀ s : State, s.inReset = false →
    ∃ t, exec .hardReset s = .next t ∧
      (∀ i : Fin 16, (∀ h st n, s.slots[i] = .ready h st n → t.slots[i] = .ready h st 0) ∧
        (s.slots[i].number ≠ 2 → t.slots[i] = .empty) ∧ t.slots[i].refs = 0) ∧
      poolFree t.slots = 1024 - stepsHeld (s.slots.map (fun sl => if sl.isReady then sl else .empty)) ∧
      ∀ l : Link, (t.notices.get l).pendingSet = []

/-- R198, R91, R105, R150, R174, R126: at the accepted assertion of RESET_n every output is negated and every block takes its
hard-reset values, the settings their defaults; the line time and the reset-cause record stand; and while RESET_n stays asserted no command
but the end of the reset, or a power-on reset, changes anything.
The model's choices in it: the last change time (log 12), a command during the reset (logs 2 and 27), the kept queue (log 32). -/
def Obligations.HardResetHolds : Prop :=
  (∀ s : State, s.inReset = false →
    ∃ t, exec .hardReset s = .next t ∧ t.inReset = true ∧ t.lineTime = s.lineTime ∧ t.resetCause = s.resetCause ∧
      t.run = ⟨.stopped, CauseSet.none, none, s.lineTime⟩ ∧ t.head.clamp = false ∧ t.head.blade = false ∧
      t.head.strokeW = 0 ∧ t.head.strokeH = 0 ∧ t.head.cycle = .idle ∧
      (∀ z : ZoneId, (t.heat.zones.get z).supplyOut = false ∧ (t.heat.zones.get z).ventOut = false) ∧
      t.exitUnit = ⟨[], none, false⟩ ∧ t.unwind.paste = none ∧ t.unwind.knife = none ∧
      t.unwind.rolls = ⟨none, none⟩ ∧ t.unwind.splice = .idle ∧ t.map = ⟨[], 0, 0, 0, 0⟩ ∧ t.orders = [] ∧
      t.plan = [] ∧ t.planner = ⟨none, none, 0, []⟩ ∧ t.feed.position = 0 ∧ t.carrier.position = 0 ∧
      (∀ l : Link, (t.links.get l).requests = [] ∧ (t.links.get l).responses = [] ∧ attention t l = false) ∧
      t.capture = ⟨none, 0⟩ ∧ t.starvation = 6 ∧ HardResetValues t ∧ t.pending = s.pending) ∧
  ∀ (c : Instr) (s : State), s.inReset = true → (∀ v, c ≠ .powerOnReset v) → (∀ v, c ≠ .hardResetEnd v) →
    exec c s = .next s

/-- R198, R186, R8, R144, R150, R189: the end of a hard reset with SAFE_STOP_n negated, every block still at its hard-reset values.
The model's choices in it: every link waits for its select negated (log 9), the kept queue (log 32). -/
def Obligations.HardResetEnd : Prop :=
  ∀ (v : InputLevels) (s : State), s.inReset = true → v.safeStop = false →
    ∃ t, exec (.hardResetEnd v) s = .next t ∧ t.inReset = false ∧ t.lineTime = s.lineTime ∧
      t.resetCause = ⟨.pin, s.lineTime⟩ ∧ t.levels = v ∧ t.slots = s.slots ∧ t.feed.gateStart = s.lineTime ∧
      t.feed.gateCount = 0 ∧ t.heat.lastDose = s.lineTime ∧
      (∀ z : ZoneId, (t.heat.zones.get z).phase = .pause ∧ (t.heat.zones.get z).applied = 0 ∧
        (t.heat.zones.get z).period = ⟨s.lineTime, 2000, 50, 0, 0⟩) ∧
      t.run.state = .stopped ∧ t.run.causes = CauseSet.none ∧ (∀ l : Link, (t.links.get l).awaitDeselect = true) ∧
      HardResetValues t ∧ t.pending = s.pending

/-- R105: SAFE_STOP_n asserted at the end of a power-on reset or a hard reset: the line is HALTED by SAFE, CLAMP is not
asserted, and SAFE_STOP and HALTED are the first notices.
That a power-on reset leaves the part out of reset with SAFE_STOP_n sampled, RESET_n asserted or not, is the model's choice
(log 40). -/
def Obligations.SafeSampledAtResetEnd : Prop :=
  ∀ (v : InputLevels) (s : State) (c : Instr), v.safeStop = true →
    (c = .powerOnReset v ∨ (c = .hardResetEnd v ∧ s.inReset = true)) →
    ∃ t, exec c s = .next t ∧ t.run.state = .halted ∧ t.run.causes = { CauseSet.none with safe := true } ∧
      t.run.haltEntry = some (.safe, t.lineTime) ∧ t.head.clamp = false ∧
      t.notices.line.pendingSet = [.safeStop, .halted] ∧ t.notices.pattern.pendingSet = [.safeStop] ∧
      t.notices.unwind.pendingSet = [.safeStop] ∧ ∀ l : Link, attention t l = true

/-! ## Web and carrier tracking -/

/-- R1, R2, R3, R9, R59, R156: an accepted channel state that differs in both channels, or in neither, gives no tick and becomes
the reference; a state of R1's table gives one tick, with the Feed Tracker's account of it, the width or the spoiled flag of an
open mark measurement, and the count or the spoiled flag of an open revolution interval.
An interval of 4,194,303 is left open at 4,194,304 by a forward tick: its overflow as an event of its own is the model's choice
(log 14). -/
def Obligations.EncoderTicks : Prop :=
  ∀ (a b : Bool) (s : State), s.inReset = false →
    (((a = s.levels.feedA ∧ b = s.levels.feedB) ∨ (a ≠ s.levels.feedA ∧ b ≠ s.levels.feedB)) →
        exec (.feedEncoderChange a b) s = .next { s with levels := { s.levels with feedA := a, feedB := b } }) ∧
      ∀ d, ((s.levels.feedA, s.levels.feedB), (a, b), d) ∈ encoderTable →
        ∃ t, exec (.feedEncoderChange a b) s = .next t ∧
          t.levels = { s.levels with feedA := a, feedB := b } ∧ t.feed.direction = d ∧
          t.feed.position =
            (match d with
              | .forward => if s.feed.position < 2 ^ 40 - 1 then s.feed.position + 1 else s.feed.position
              | .reverse => s.feed.position - 1) ∧
          t.feed.gateCount = (match d with | .forward => s.feed.gateCount + 1 | .reverse => s.feed.gateCount - 1) ∧
          t.feed.standstill = false ∧ t.feed.lastTick = s.lineTime ∧ t.feed.speed = s.feed.speed ∧
          t.feed.gateStart = s.feed.gateStart ∧
          t.marks.measurement =
            s.marks.measurement.map (fun q =>
              match d with
              | .forward =>
                { q with
                  width := q.width + 1
                  spoiled :=
                    if q.spoiled = none ∧ s.tracking.markWidthMax < q.width + 1 then some .width else q.spoiled }
              | .reverse => { q with spoiled := if q.spoiled = none then some .reverse else q.spoiled }) ∧
          (∀ i, s.unwind.interval = some i → i.n ≤ 4194303 →
            t.unwind.interval =
              some (match d with
                | .forward => { i with n := i.n + 1 }
                | .reverse => { i with spoiled := true })) ∧
          (s.unwind.interval = none → t.unwind.interval = none) ∧
          t.lineTime = s.lineTime ∧ t.inReset = false ∧ t.resetCause = s.resetCause ∧ t.carrier = s.carrier ∧
          t.tracking = s.tracking ∧ t.orders = s.orders ∧ t.exitUnit = s.exitUnit ∧ t.heat = s.heat ∧
          t.links = s.links ∧ t.starvation = s.starvation ∧ t.capture = s.capture

/-- R6, R7, R4, R94, R95: a reverse tick counted in RUNNING or DRAINING that raises the excursion above the tolerance halts the line
with REVERSE and an excursion of 0; one that does not, with no plan entry reached, only counts; a forward tick in those states, with no
plan entry reached, takes 1 from an excursion above 0; at rest nothing is counted; and a forward tick that brings the feed
position to 2^40 - 1, or finds it there, halts the line with POSITION_END. Where the tick reaches no plan entry and no splice
position and misses no mark, each of the two halts is just the entry into HALTED of the state that the tick left.
That the tick leaves an interval of 4,194,303 open at 4,194,304 is the model's choice (log 14). -/
def Obligations.FeedCauses : Prop :=
  ∀ (a b : Bool) (s : State), s.inReset = false →
    (((s.levels.feedA, s.levels.feedB), (a, b), Direction.reverse) ∈ encoderTable → producing s = true →
        (s.tracking.reverseTolerance < s.feed.excursion + 1 → s.run.causes.reverse = false →
          ∃ t, exec (.feedEncoderChange a b) s = .next t ∧ t.run.state = .halted ∧ t.run.causes.reverse = true ∧
            t.feed.excursion = 0) ∧
        (s.tracking.reverseTolerance < s.feed.excursion + 1 → NoMarkMissed (s.feed.position - 1) s s.marks.list →
          NoEntryReached (s.feed.position - 1) s.plan → NoSplicePointReached (s.feed.position - 1) s.unwind →
          exec (.feedEncoderChange a b) s = .next (causeAdded .reverse (reverseTicked a b s))) ∧
        (s.feed.excursion + 1 ≤ s.tracking.reverseTolerance → (∀ e ∈ s.plan.head?, s.feed.position < e.position) →
          ∃ t, exec (.feedEncoderChange a b) s = .next t ∧ t.run = s.run ∧
            t.feed.excursion = s.feed.excursion + 1)) ∧
      (ForwardTick a b s → producing s = true → NoEntryReached (s.feed.position + 1) s.plan →
        ∃ t, exec (.feedEncoderChange a b) s = .next t ∧ t.run = s.run ∧
          t.feed.excursion = (if s.feed.excursion = 0 then 0 else s.feed.excursion - 1)) ∧
      (∀ d, ((s.levels.feedA, s.levels.feedB), (a, b), d) ∈ encoderTable → producing s = false →
        s.feed.excursion = 0 → ∃ t, exec (.feedEncoderChange a b) s = .next t ∧ t.feed.excursion = 0) ∧
      (((s.levels.feedA, s.levels.feedB), (a, b), Direction.forward) ∈ encoderTable →
        2 ^ 40 - 1 ≤ s.feed.position + 1 → s.feed.position ≤ 2 ^ 40 - 1 → s.run.causes.positionEnd = false →
        ∃ t, exec (.feedEncoderChange a b) s = .next t ∧ t.run.state = .halted ∧ t.run.causes.positionEnd = true ∧
          t.feed.position = 2 ^ 40 - 1) ∧
      (((s.levels.feedA, s.levels.feedB), (a, b), Direction.forward) ∈ encoderTable →
        2 ^ 40 - 1 ≤ s.feed.position + 1 → s.feed.position ≤ 2 ^ 40 - 1 → NoMarkMissed (2 ^ 40 - 1) s s.marks.list →
        NoEntryReached (2 ^ 40 - 1) s.plan → NoSplicePointReached (2 ^ 40 - 1) s.unwind →
        let u := forwardTicked a b s
        exec (.feedEncoderChange a b) s =
          .next (causeAdded .positionEnd { u with feed := { u.feed with position := 2 ^ 40 - 1 } }))

/-- R8, R88: the end of a speed gate. -/
def Obligations.SpeedGateEnd : Prop :=
  ∀ s : State, s.inReset = false → 10000 ≤ elapsed s.lineTime s.feed.gateStart →
    ∃ t, exec .speedGateEnd s = .next t ∧
      t = { s with feed := t.feed, head := t.head, notices := t.notices } ∧
      t.feed =
        { s.feed with
          speed := (if 0 < s.feed.gateCount then 100 * s.feed.gateCount.toNat else 0), gateCount := 0
          gateStart := s.lineTime } ∧
      (t.feed.speed ≤ s.head.ceiling →
        t.head = { s.head with overCount := 0, armed := true } ∧ t.notices = s.notices) ∧
      (s.head.ceiling < t.feed.speed →
        (s.head.overCount < 2 →
          t.head = { s.head with overCount := s.head.overCount + 1 } ∧ t.notices = s.notices) ∧
        (s.head.overCount = 2 ∨ s.head.overCount = 3 → s.head.armed = true →
          t.head = { s.head with overCount := 3, armed := false } ∧ t.notices = (raise .speedHigh s).notices) ∧
        (s.head.overCount = 2 ∨ s.head.overCount = 3 → s.head.armed = false →
          t.head = { s.head with overCount := 3 } ∧ t.notices = s.notices))

/-- R9, R12, R118, R14: the two standstill flags are set once the standstill time has passed since the last tick, and CUT is negated
once its dwell has passed; nothing else changes. The time elapsed since a moment is counted modulo 2^48. -/
def Obligations.TimedFlagsEnd : Prop :=
  ∀ s : State, s.inReset = false →
    (s.feed.standstill = false → s.tracking.standstillMs * 1000 ≤ elapsed s.lineTime s.feed.lastTick →
        exec .feedStandstillExpiry s = .next { s with feed := { s.feed with standstill := true } }) ∧
      (s.carrier.standstill = false → s.tracking.standstillMs * 1000 ≤ elapsed s.lineTime s.carrier.lastTick →
        exec .carrierStandstillExpiry s = .next { s with carrier := { s.carrier with standstill := true } }) ∧
      (∀ c, s.exitUnit.cut = some c → c.dur ≤ elapsed s.lineTime c.start →
        exec .cutDwellEnd s = .next { s with exitUnit := { s.exitUnit with cut := none } }) ∧
      ∀ now start : LineTime, elapsed now start = (now.toNat + 2 ^ 48 - start.toNat) % 2 ^ 48

/-- R10, R11, R12, R94, R95, R117: a carrier tick. One that moves the position short of its end, with the oldest segment not at the
exit, changes nothing but the Carrier Tracker; one that brings it to 2^40 - 1 adds POSITION_END, and the exits follow; one that finds
it there adds POSITION_END alone.
That the cause comes before the exits is the model's reading (log 25), as is the refresh of the latch after every consumption
(log 36). -/
def Obligations.CarrierTick : Prop :=
  ∀ s : State, s.inReset = false → s.carrier.position ≤ 2 ^ 40 - 1 →
    ∃ t, exec .carrierTick s = .next t ∧
      t.carrier = ⟨min (s.carrier.position + 1) (2 ^ 40 - 1), false, s.lineTime⟩ ∧
      t.levels = { s.levels with carr := true } ∧ t.lineTime = s.lineTime ∧ t.tracking = s.tracking ∧
      t.orders = s.orders ∧ t.marks = s.marks ∧ t.heat = s.heat ∧ t.links = s.links ∧ t.capture = s.capture ∧
      (s.carrier.position + 1 < 2 ^ 40 - 1 →
        (∀ g ∈ s.map.segments.head?, ∀ p ∈ g.trailing,
          s.carrier.position + 1 - p < s.tracking.exitDistance) →
        t = { s with carrier := t.carrier, levels := t.levels }) ∧
      (2 ^ 40 - 1 ≤ s.carrier.position + 1 → s.run.causes.positionEnd = false →
        t.run.state = .halted ∧ t.run.causes.positionEnd = true) ∧
      (let ended : State := causeAdded .positionEnd { s with carrier := t.carrier, levels := t.levels }
       (s.carrier.position + 1 = 2 ^ 40 - 1 → Exits ended t) ∧ (s.carrier.position = 2 ^ 40 - 1 → t = ended))

/-- R117, R118, R120, R121, R123, R74: the exits that a carrier tick brings about. Where the oldest segment alone is at the exit and no
plan entry is held at the head, what its exit leaves. In every case short of the end of the range: the oldest segments leave one
after another while the oldest is at the exit, and after each removal the head tries the plan again, so that a PANEL_START held by a
full map is taken when a segment leaves.
That the head tries between one removal and the next is the model's reading (log 25), as is the refresh after every consumption
(log 36). -/
def Obligations.ExitOfOldest : Prop :=
  (∀ (s : State) (g : Segment) (rest : List Segment) (p : Nat), s.inReset = false →
    s.map.segments = g :: rest → g.trailing = some p → s.carrier.position + 1 < 2 ^ 40 - 1 →
    s.tracking.exitDistance ≤ s.carrier.position + 1 - p →
    (∀ w ∈ rest.head?, ∀ q ∈ w.trailing, s.carrier.position + 1 - q < s.tracking.exitDistance) →
    (∀ e ∈ s.plan.head?, s.feed.position < e.position) →
    ∃ t, exec .carrierTick s = .next t ∧
      t = { s with levels := t.levels, carrier := t.carrier, exitUnit := t.exitUnit, map := t.map, notices := t.notices } ∧
      t.map.segments = rest ∧ t.map.started = s.map.started ∧ t.map.cleared = s.map.cleared ∧
      t.exitUnit.cut = some ⟨s.lineTime, s.tracking.cutDwell⟩ ∧
      (let flags := if g.dose < g.doseMin then { g.flags with underSet := true } else g.flags
       t.exitUnit.gate = decide (flags = PanelFlags.none) ∧
         (s.exitUnit.reports.length < 16 →
           t.exitUnit.reports = s.exitUnit.reports ++
             [⟨g.serial, g.tag, g.slot, decide (flags = PanelFlags.none), flags, g.dose, g.fired, g.late, g.missed,
               s.lineTime⟩] ∧
           t.map.reported = s.map.reported + 1 ∧ t.map.dropped = s.map.dropped ∧
           t.notices = (if s.exitUnit.reports = [] then (raise .reportReady s).notices else s.notices)) ∧
         (16 ≤ s.exitUnit.reports.length →
           t.exitUnit.reports = s.exitUnit.reports ∧ t.map.reported = s.map.reported ∧
           t.map.dropped = s.map.dropped + 1 ∧ t.notices = s.notices))) ∧
  ∀ s : State, s.inReset = false → s.carrier.position + 1 < 2 ^ 40 - 1 →
    ∃ t, exec .carrierTick s = .next t ∧
      Exits
        { s with
          levels := { s.levels with carr := true }, carrier := ⟨s.carrier.position + 1, false, s.lineTime⟩ } t

/-- R15, R16: SET_TRACKING in STOPPED or HALTED, with nothing planned and every field in range, replaces the eight settings and
settles the standstill flags; while the line produces, or with a plan, it is refused STATE; out of range, RANGE. -/
def Obligations.SetTrackingTaken : Prop :=
  ∀ (s : State) (l : Link) (r : QueuedRequest), Taking .setTracking l r s →
    ((producing s = true ∨ s.plan ≠ [] ∨ s.marks.list ≠ [] ∨ ∃ c ∈ s.planner.contexts, c.planning.isSome = true) →
        exec .setTracking s = .next (refuse l r.code .state (grant l s))) ∧
      (producing s = false → s.plan = [] → s.marks.list = [] → (∀ c ∈ s.planner.contexts, c.planning = none) →
        let legal : Prop :=
          (1000 ≤ field r.args 0 2 ∧ field r.args 0 2 ≤ 50000) ∧ field r.args 2 3 ≤ 200000 ∧
            (1 ≤ field r.args 5 2 ∧ field r.args 5 2 ≤ 20000) ∧
            (field r.args 5 2 ≤ field r.args 7 2 ∧ field r.args 7 2 ≤ 20000) ∧ field r.args 9 3 ≤ 100000 ∧
            (100 ≤ field r.args 12 2 ∧ field r.args 12 2 ≤ 5000) ∧
            (1000 ≤ field r.args 14 3 ∧ field r.args 14 3 ≤ 16000000) ∧
            (1000 ≤ field r.args 17 3 ∧ field r.args 17 3 ≤ 500000) ∧
            ∀ z : ZoneId, (s.heat.zones.get z).bound ≤ field r.args 14 3
        (¬legal → exec .setTracking s = .next (refuse l r.code .range (grant l s))) ∧
        (legal →
          ∃ t, exec .setTracking s = .next (respond l r.code .granted [] t) ∧
            t = { grant l s with tracking := t.tracking, feed := t.feed, carrier := t.carrier } ∧
            t.tracking =
              ⟨field r.args 0 2, field r.args 2 3, field r.args 5 2, field r.args 7 2, field r.args 9 3,
                field r.args 12 2, field r.args 14 3, field r.args 17 3⟩ ∧
            t.feed =
              { s.feed with
                standstill := s.feed.standstill ||
                  decide (field r.args 12 2 * 1000 ≤ elapsed s.lineTime s.feed.lastTick) } ∧
            t.carrier =
              { s.carrier with
                standstill := s.carrier.standstill ||
                  decide (field r.args 12 2 * 1000 ≤ elapsed s.lineTime s.carrier.lastTick) }))

/-! ## Print registration -/

/-- R58, R59, R61: the leading edge opens the measurement; a trailing edge with the measurement closed has no effect but the
level; and, with the front expectation not missed, a spoiled, too wide, too narrow or unexpected mark leaves only its outcome.
R62 to R64, R60, R41: a forward tick that carries the front's window past the sensor with no measurement open misses it; a valid
mark inside the front's window counts as a miss of it with the outcome REJECTED_K when its measured factor leaves the range of k,
and else with REJECTED_RANGE when its shift would take a position out of the range. A head position beyond 2^40 - 1 matches no
expectation. A miss removes the front, counts up to 3, adds to the tally of the last accepted mark and, at 3, flags the panel
REG_LOST, on its context until its PANEL_START is consumed.
That a rejected mark's record holds its own head position and width is the model's reading (log 30); that the tick leaves an interval
of 4,194,303 open at 4,194,304 is its choice (log 14). -/
def Obligations.MarkEdges : Prop :=
  (∀ s : State, s.inReset = false →
    (s.levels.mark = false →
        exec .markLeadingEdge s =
          .next
            { s with
              levels := { s.levels with mark := true }
              marks := { s.marks with
                measurement := some
                  ⟨s.feed.position, s.feed.position + s.tracking.markOffset, 0,
                    if s.feed.direction = .reverse then some .reverse else none⟩ } }) ∧
      (s.levels.mark = true → s.marks.measurement = none →
        (∀ e ∈ s.marks.list.head?, s.feed.position + s.tracking.markOffset ≤ e.position + e.window) →
        exec .markTrailingEdge s = .next { s with levels := { s.levels with mark := false } }) ∧
      ∀ q, s.levels.mark = true → s.marks.measurement = some q →
        (∀ e ∈ s.marks.list.head?, s.feed.position + s.tracking.markOffset ≤ e.position + e.window) →
        let after (o : MarkOutcome) : Host.Outcome State Fault Refusal :=
          .next
            { s with
              levels := { s.levels with mark := false }
              marks := { s.marks with measurement := none, outcome := some ⟨o, q.headPos, q.width⟩ } }
        (q.spoiled = some .reverse → exec .markTrailingEdge s = after .discardedReverse) ∧
          (q.spoiled ≠ some .reverse →
            (q.spoiled = some .width ∨ s.tracking.markWidthMax < q.width ∨ q.width < s.tracking.markWidthMin) →
            exec .markTrailingEdge s = after .discardedWidth) ∧
          (q.spoiled = none → s.tracking.markWidthMin ≤ q.width → q.width ≤ s.tracking.markWidthMax →
            (2 ^ 40 - 1 < q.headPos ∨
              ∀ e ∈ s.marks.list.head?, q.headPos + e.window < e.position ∨ e.position + e.window < q.headPos) →
            exec .markTrailingEdge s = after .stray)) ∧
  ∀ (s : State) (e : Expectation) (rest : List Expectation), s.marks.list = e :: rest → s.marks.misses ≤ 3 →
    (∀ a b, ForwardTick a b s → s.marks.measurement = none →
        e.position + e.window < s.feed.position + 1 + s.tracking.markOffset → NoMarkMissed (s.feed.position + 1) s rest →
        NoEntryReached (s.feed.position + 1) s.plan → NoSplicePointReached (s.feed.position + 1) s.unwind →
        ∃ t, exec (.feedEncoderChange a b) s = .next t ∧
          MissTaken (forwardTicked a b s) e rest ⟨.miss, e.position, 0⟩ t) ∧
      ∀ q, s.inReset = false → s.levels.mark = true → s.marks.measurement = some q → q.spoiled = none →
        s.tracking.markWidthMin ≤ q.width → q.width ≤ s.tracking.markWidthMax → e.position ≤ q.headPos + e.window →
        q.headPos ≤ e.position + e.window → q.headPos ≤ 2 ^ 40 - 1 → NoMarkMissed s.feed.position s rest →
        let u := { s with levels := { s.levels with mark := false }, marks := { s.marks with measurement := none } }
        let d : Int := (q.headPos : Int) - e.position
        let factor (m : AcceptedMark) : Int :=
          roundHalfUpInt (((q.headPos : Int) - m.headPos) * 65536 * s.tracking.feedTick) (e.repeatLen * 1000 * (m.tally + 1))
        (∀ m, s.marks.last = some m → m.serial = e.serial → (factor m < 62259 ∨ 68813 < factor m) →
            ∃ t, exec .markTrailingEdge s = .next t ∧ MissTaken u e rest ⟨.rejectedK, q.headPos, q.width⟩ t) ∧
          ((∀ m, s.marks.last = some m → m.serial = e.serial → 62259 ≤ factor m ∧ factor m ≤ 68813) →
            (∃ n ∈ movedPositions rest s, (n : Int) + d < 0 ∨ 2 ^ 40 - 1 < (n : Int) + d) →
            ∃ t, exec .markTrailingEdge s = .next t ∧ MissTaken u e rest ⟨.rejectedRange, q.headPos, q.width⟩ t)

/-- R61, R64 to R69, R60, R162: a valid mark inside the front expectation's window, whose factor and shift stay in range, the next front
not missed, is accepted: the plan, the expectations behind the front, the cursor, the last appended position, the next mark position
and a PLANNED splice move by e; k, the last accepted mark, the miss count and the outcome follow, and the latch and the ceiling are
refreshed. The shift is then an event at the head, which consumes the entries it brings to the fabric, and at the Unwind Unit, which
takes a fire position it brings there as reached and searches for a DUE splice; with neither concerned nothing else changes. The positions that must stay in range are those that move (R67).
The order of the two blocks is free (log 4), and the refresh after every consumption is the model's reading (log 36). -/
def Obligations.MarkAccepted : Prop :=
  ∀ (s : State) (q : Measurement) (e : Expectation) (rest : List Expectation), s.inReset = false →
    s.levels.mark = true → s.marks.measurement = some q → q.spoiled = none →
    s.tracking.markWidthMin ≤ q.width → q.width ≤ s.tracking.markWidthMax → s.marks.list = e :: rest →
    e.position ≤ q.headPos + e.window → q.headPos ≤ e.position + e.window → q.headPos ≤ 2 ^ 40 - 1 →
    let d : Int := (q.headPos : Int) - e.position
    let k : Int :=
      match s.marks.last with
      | some a =>
        if a.serial = e.serial then
          roundHalfUpInt (((q.headPos : Int) - a.headPos) * 65536 * s.tracking.feedTick) (e.repeatLen * 1000 * (a.tally + 1))
        else s.marks.k
      | none => s.marks.k
    62259 ≤ k → k ≤ 68813 →
    (∀ n ∈ movedPositions rest s, 0 ≤ (n : Int) + d ∧ (n : Int) + d ≤ 2 ^ 40 - 1) →
    (∀ x ∈ rest.head?, (s.feed.position : Int) + s.tracking.markOffset ≤ x.position + d + x.window) →
    let moved := markAccepted q e rest k s
    (moved =
        { s with
          levels := { s.levels with mark := false }
          plan := moved.plan, marks := moved.marks, planner := moved.planner, unwind := moved.unwind }) ∧
      moved.plan = s.plan.map (fun p => { p with position := ((p.position : Int) + d).toNat }) ∧
      moved.marks =
        { measurement := none
          list := rest.map (fun x => { x with position := ((x.position : Int) + d).toNat })
          k := k.toNat
          last := if rest.head?.any (fun x => x.index == 0) then none else some ⟨q.headPos, e.serial, 0⟩
          misses := 0
          outcome := some ⟨.accepted, q.headPos, q.width⟩ } ∧
      moved.planner.cursor = s.planner.cursor.map (fun n : Nat => ((n : Int) + d).toNat) ∧
      moved.planner.lastAppended = s.planner.lastAppended.map (fun n : Nat => ((n : Int) + d).toNat) ∧
      moved.planner.nextSerial = s.planner.nextSerial ∧
      moved.planner.contexts =
        s.planner.contexts.map
          (fun c => { c with
            planning := c.planning.map (fun p => { p with nextMark := ((p.nextMark : Int) + d).toNat }) }) ∧
      (∀ r i x f, s.unwind.splice = .planned r i x f →
        moved.unwind = { s.unwind with splice := .planned r i ((x : Int) + d).toNat ((f : Int) + d).toNat }) ∧
      ((∀ r i x f, s.unwind.splice ≠ .planned r i x f) → moved.unwind = s.unwind) ∧
      (∀ n, n ∈ movedPositions rest s ↔
        (∃ p ∈ s.plan, n = p.position) ∨ (∃ x ∈ rest, n = x.position) ∨ s.planner.cursor = some n ∨
          s.planner.lastAppended = some n ∨ (∃ c ∈ s.planner.contexts, ∃ p, c.planning = some p ∧ n = p.nextMark) ∨
          ∃ r i x f, s.unwind.splice = .planned r i x f ∧ (n = x ∨ n = f)) ∧
      ∃ t, exec .markTrailingEdge s = .next t ∧ ShiftTaken (refreshHead moved) t

/-! ## Panel queue and fold planning -/

/-- R40, R41, R44, R45, R25, R38, R52, R54, R55: the beginning of a copy from the head entry, with room for it, in a run state other
than DRAINING: the state that the append leaves, which the head and the Unwind Unit then take: the head where the fabric has reached
the PANEL_START, the Unwind Unit where a DUE splice may be searched.
The model's choices in it: an unregistered copy's planning state holds its start as next mark position (log 31), the end of
the range of positions does not hold a PANEL_START back (log 21), the two blocks' order is free (log 4), and the latch is refreshed
after every consumption (log 36). -/
def Obligations.CopyBegins : Prop :=
  ∀ (s : State) (o : PanelOrder) (rest : List PanelOrder) (h : Header) (st : List PatternStep) (n : Nat),
    s.inReset = false → s.plan.length < 128 → (∀ c ∈ s.planner.contexts, c.planning = none) →
    s.planner.contexts.length < 8 → s.orders = o :: rest →
    (s.slots[o.slot] = .ready h st n ∨ (s.slots[o.slot] = .retiring h st n ∧ 1 ≤ n)) →
    (h.repeatLen ≠ 0 → s.marks.list.length < 16) → s.run.state ≠ .draining →
    let start := s.planner.cursor.getD (s.feed.position + 1)
    let pos := entryPosition s.planner.lastAppended start
    let last := decide (o.copies ≤ o.started + 1)
    ∃ t end_, exec .plannerBeginCopy s = .next end_ ∧ AppendTaken pos (refreshHead t) end_ ∧
      t = { s with slots := t.slots, orders := t.orders, planner := t.planner, plan := t.plan, notices := t.notices } ∧
      t.plan = s.plan ++ [⟨.panelStart, pos, s.planner.nextSerial⟩] ∧
      t.planner.nextSerial = s.planner.nextSerial + 1 ∧ t.planner.cursor = some start ∧
      t.planner.lastAppended = some pos ∧
      t.planner.contexts = s.planner.contexts ++
        [{ serial := s.planner.nextSerial, tag := o.tag, slot := o.slot, doseMin := h.doseMin, doseMax := h.doseMax
           baseTemp := h.baseTemp, lagLimit := h.lagLimit, window := h.window, repeatLen := h.repeatLen
           repeatTicks :=
             if h.repeatLen = 0 then 0
             else roundHalfUp (h.repeatLen * 1000 * s.marks.k) (s.tracking.feedTick * 65536)
           k := if h.repeatLen = 0 then 65536 else s.marks.k
           flags := PanelFlags.none, startConsumed := false
           planning := some ⟨0, 0, 0, start, 0⟩ }] ∧
      t.orders = (if last then rest else { o with started := o.started + 1 } :: rest) ∧
      (s.slots[o.slot] = .ready h st n → t.slots[o.slot] = .ready h st (n + (if last then 0 else 1))) ∧
      (s.slots[o.slot] = .retiring h st n → t.slots[o.slot] = .retiring h st (n + (if last then 0 else 1))) ∧
      (∀ i, i ≠ o.slot → t.slots[i] = s.slots[i]) ∧
      t.notices = (if last ∧ rest = [] then (raise .queueEmpty s).notices else s.notices)

/-- R46, R52, R55, R60: a registered copy whose next mark lies behind the cursor appends its expectation, the front of the list
not being missed. The copy being planned is the context that holds a planning state (R41).
The next mark position is not held within 2^40 - 1: the model's choice (log 35). -/
def Obligations.ExpectationAppended : Prop :=
  (∀ (s : State) (c : Context) (p : PlanningState) (cur : Nat), s.inReset = false → s.plan.length < 128 →
    planningCopy s = some (c, p) → c.repeatLen ≠ 0 → s.marks.list.length < 16 → s.planner.cursor = some cur →
    p.nextMark < cur →
    let e : Expectation := ⟨p.nextMark, c.window, c.serial, p.repeatIndex, c.repeatLen⟩
    (∀ x ∈ (s.marks.list ++ [e]).head?, s.feed.position + s.tracking.markOffset ≤ x.position + x.window) →
    exec .plannerAppendExpectation s =
      .next
        { s with
          marks := { s.marks with
            list := s.marks.list ++ [e]
            last := if s.marks.list = [] ∧ p.repeatIndex = 0 then none else s.marks.last }
          planner := { s.planner with
            contexts := s.planner.contexts.map (fun x =>
              if x.planning.isSome then
                { x with
                  planning := some { p with nextMark := p.nextMark + c.repeatTicks, repeatIndex := p.repeatIndex + 1 } }
              else x) } }) ∧
    ∀ (s : State) (c : Context) (p : PlanningState), planningCopy s = some (c, p) ↔ CopyPlanned s c p

/-- R46, R49, R51, R54, R55, R41, R42, R26: the appends of a FOLD, a FLAT and a PANEL_END for the copy being planned: what the planner
makes of the state, the entry appended and the latch refreshed, and then the event that the append is at the head, where the fabric
has reached the entry, and at the Unwind Unit, where a DUE splice may be searched. A depth beyond the table flags the copy
STROKE_CLAMPED, on its context until its PANEL_START is consumed, then on its segment. A PANEL_END frees a context that is consumed.
A FLAT's cursor is not held within 2^40 - 1: the model's choice (log 35); the order of the two blocks is free (log 4), and the latch
is refreshed after every consumption (log 36). -/
def Obligations.EntriesAppended : Prop :=
  ∀ (s : State) (c : Context) (p : PlanningState) (cur : Nat), s.inReset = false → s.plan.length < 128 →
    planningCopy s = some (c, p) → s.planner.cursor = some cur →
    (c.repeatLen ≠ 0 → s.marks.list.length < 16 ∧ cur ≤ p.nextMark) →
    let planned (cursor : Nat) (next : Option PlanningState) : State :=
      { s with
        planner := { s.planner with
          cursor := some cursor
          contexts := s.planner.contexts.map (fun x => if x.planning.isSome then { x with planning := next } else x) } }
    let shrink : Nat := match s.slots[c.slot].header? with | some h => h.shrink | none => 0
    let advanced (st : PatternStep) (remainder : Nat) : PlanningState :=
      if p.pleatIndex + 1 < st.count then ⟨p.stepIndex, p.pleatIndex + 1, remainder, p.nextMark, p.repeatIndex⟩
      else ⟨p.stepIndex + 1, 0, remainder, p.nextMark, p.repeatIndex⟩
    let appended (kind : EntryKind) (pos : Nat) (m : State) : State :=
      refreshHead
        { m with plan := s.plan ++ [⟨kind, pos, c.serial⟩], planner := { m.planner with lastAppended := some pos } }
    (∀ st, s.slots[c.slot].steps[p.stepIndex]? = some st → st.kind ≠ .flat →
        let take := takeOf st shrink c.k s.tracking.feedTick p.remainder
        let pos := entryPosition s.planner.lastAppended (cur + take.1)
        let u := planned (cur + take.1) (some (advanced st take.2))
        pos ≤ 2 ^ 40 - 1 →
        ∃ m t, exec .plannerAppendFold s = .next t ∧
          AppendTaken pos
            (appended (.fold (strokeCode s.head.setup.table st.waist) (strokeCode s.head.setup.table st.hem)) pos m) t ∧
          (st.waist ≤ s.head.setup.table[15] → st.hem ≤ s.head.setup.table[15] → m = u) ∧
          (s.head.setup.table[15] < st.waist ∨ s.head.setup.table[15] < st.hem →
            ((∃ x ∈ s.planner.contexts, x.serial = c.serial ∧ x.startConsumed = false) →
              m =
                { u with
                  planner := { u.planner with
                    contexts := u.planner.contexts.map (fun x =>
                      if x.serial = c.serial ∧ x.startConsumed = false then
                        { x with flags := { x.flags with strokeClamped := true } }
                      else x) } }) ∧
            ((∀ x ∈ s.planner.contexts, x.serial = c.serial → x.startConsumed = true) →
              m =
                { u with
                  map := { s.map with
                    segments := s.map.segments.map (fun g =>
                      if g.serial = c.serial then { g with flags := { g.flags with strokeClamped := true } } else g) } }))) ∧
      (∀ st, s.slots[c.slot].steps[p.stepIndex]? = some st → st.kind = .flat →
        let take := takeOf st shrink c.k s.tracking.feedTick p.remainder
        let pos := entryPosition s.planner.lastAppended cur
        pos ≤ 2 ^ 40 - 1 →
        ∃ t, exec .plannerAppendFlat s = .next t ∧
          AppendTaken pos
            (appended (.flat (cur + take.1 - pos) st.spliceOk) pos (planned (cur + take.1) (some (advanced st take.2)))) t) ∧
      (s.slots[c.slot].steps[p.stepIndex]? = none →
        let pos := entryPosition s.planner.lastAppended cur
        let u := planned cur none
        pos ≤ 2 ^ 40 - 1 →
        ∃ m t, exec .plannerAppendPanelEnd s = .next t ∧ AppendTaken pos (appended .panelEnd pos m) t ∧
          (c.startConsumed = false → m = u) ∧
          (c.startConsumed = true → ∀ x, s.planner.contexts.find? (fun x => x.serial = c.serial) = some x →
            m =
                { u with
                  planner := { u.planner with contexts := u.planner.contexts.eraseP (fun x => x.serial = c.serial) }
                  slots := m.slots, notices := m.notices } ∧
              (∀ i : Fin 16, m.slots[i] = if i = x.slot then slotReleased 1 s.slots[i] else s.slots[i]) ∧
              m.notices =
                (if s.slots[x.slot].number = 3 ∧ s.slots[x.slot].refs ≤ 1 then (raise .patternReleased s).notices
                  else s.notices)))

/-- R48 to R50: over any number of pleats the takes are exact: their sum times D plus the remainder left is the numerators' sum
plus the remainder begun with, so the sum never strays a whole tick from the true length. -/
def Obligations.TakesAreExact : Prop :=
  ∀ (st : PatternStep) (shrink k q n r : Nat), 0 < q → r < 10000 * 65536 * q →
    let base :=
      match st.kind with
      | .knife => st.pitch + 2 * max st.waist st.hem
      | .box => st.pitch + 4 * max st.waist st.hem
      | .accordion => 2 * max st.waist st.hem
      | .flat => st.pitch
    (takesInRow st shrink k q n r).1 * (10000 * 65536 * q) + (takesInRow st shrink k q n r).2 =
        n * (base * (10000 + shrink) * k * 1000) + r ∧
      (takesInRow st shrink k q n r).2 < 10000 * 65536 * q

/-- R51: the stroke code of a depth is the smallest whose table depth is not less, and 15 when every table depth is less. -/
def Obligations.StrokeCodeIsSmallest : Prop :=
  ∀ (table : Vector Nat 16) (depth : Nat),
    (depth ≤ table[15] →
        ∃ i : Fin 16, strokeCode table depth = BitVec.ofNat 4 i.val ∧ depth ≤ table[i] ∧
          ∀ j : Fin 16, j < i → table[j] < depth) ∧
      ((∀ j : Fin 16, table[j] < depth) → strokeCode table depth = 15)

/-! ## The pleating head -/

/-- R79, R82, R85, R78, R80, R87, R77, R98: the ends of the opening gap, the dwell and the closing gap, and of CLAMP's wait: with no
fold pending the closing gap ends in IDLE; a pending fold fires: its segment counts it fired, and late with LATE_FOLD where its lag is
above the segment's limit, the latch and the ceiling are refreshed after it, and a drain that it alone held back is complete, with
DRAINED.
That the gap CLAMP waits for is compared anew modulo 2^48 after it has passed is the model's choice (log 39). -/
def Obligations.BladeCycle : Prop :=
  ∀ s : State, s.inReset = false →
    (∀ g, s.head.cycle = .opening g → g.dur ≤ elapsed s.lineTime g.start →
        exec .openingGapEnd s =
          .next { s with head := { s.head with blade := true, cycle := .strike ⟨s.lineTime, s.head.setup.dwell⟩ } }) ∧
      (∀ g, s.head.cycle = .strike g → g.dur ≤ elapsed s.lineTime g.start →
        exec .dwellEnd s =
          .next
            { s with
              head := { s.head with
                blade := false, cycle := .closing ⟨s.lineTime, s.head.setup.gap⟩
                bladeGap := ⟨s.lineTime, s.head.setup.gap⟩ } }) ∧
      (∀ g, s.head.cycle = .closing g → g.dur ≤ elapsed s.lineTime g.start → s.head.pendingFold = none →
        exec .closingGapEnd s =
          .next
            { s with
              head :=
                if s.run.causes.safe then { s.head with cycle := .idle, inCycle := none }
                else
                  { s.head with
                    cycle := .idle, inCycle := none, strokeW := s.head.latchW, strokeH := s.head.latchH
                    clamp := s.head.clamp || decide (s.head.bladeGap.dur ≤ elapsed s.lineTime s.head.bladeGap.start) } }) ∧
      (s.head.cycle = .idle → s.run.causes.safe = false → s.head.clamp = false →
        s.head.bladeGap.dur ≤ elapsed s.lineTime s.head.bladeGap.start →
        exec .clampGapExpiry s = .next { s with head := { s.head with clamp := true } }) ∧
      ∀ g p, s.head.cycle = .closing g → g.dur ≤ elapsed s.lineTime g.start → s.head.pendingFold = some p →
        let late : Prop := ∃ g, segmentOf p.serial s = some g ∧ g.lagLimit < s.feed.position - p.position
        let fired (map : WebMap) (notices : PerLink NoticeBox) : State :=
          { s with
            head := { s.head with
              cycle := .opening ⟨s.lineTime, s.head.setup.gap⟩, inCycle := some ⟨p.serial, p.position⟩
              lastFired := some p.position, pendingFold := none, clamp := false, strokeW := p.waist, strokeH := p.hem }
            map := map, notices := notices }
        let complete : Prop := s.run.state = .draining ∧ s.plan = [] ∧ ∀ c ∈ s.planner.contexts, c.planning = none
        ∃ u v t, exec .closingGapEnd s = .next t ∧
          (late → u = fired (recordedOn p.serial foldLate s.map) (raise .lateFold s).notices) ∧
          (¬late → u = fired (recordedOn p.serial foldFired s.map) s.notices) ∧ Refreshed u v ∧
          (complete →
            t =
              { v with
                run := { s.run with state := .stopped, lastChange := s.lineTime }
                feed := { s.feed with excursion := 0 }
                notices := (raise .drained v).notices }) ∧
          (¬complete → t = v)

/-- R73 to R78, R80 to R82, R84, R87, R94, R95, R42, R114, R115, R98: the four kinds of plan entry reached at the head. A FOLD
fires, pends, halts the line with OVERRUN, both folds counted missed and a fold in OPENING or STRIKE aborted, or is missed, by
the run state, the cycle and the pending fold. A PANEL_START opens a segment of its copy's context, counts it, and frees the
context or lets it live on as started; on a full map it is held and adds MAP_FULL. A FLAT becomes the current region. A
PANEL_END closes its segment and completes a drain it alone held back. A fold that fires with no segment of its serial in the
map is recorded nowhere. A forward tick that reaches the front entry alone does just this with the state the tick left, and then
refreshes the latch, the outputs and the ceiling; one that reaches several consumes them in queue order. The refresh after every
consumption is the model's reading (log 36); that the tick leaves an interval of 4,194,303 open at 4,194,304 is its choice (log
14). -/
def Obligations.EntriesReached : Prop :=
  (∀ (s : State) (n : Serial) (pos : Nat) (w h : StrokeCode),
    (producing s = true → s.head.cycle = .idle →
        let t := reachFold n pos w h s
        t = { s with head := t.head, map := t.map, notices := t.notices } ∧
          t.head =
            { s.head with
              region := .folding, strokeW := w, strokeH := h, clamp := false, inCycle := some ⟨n, pos⟩
              lastFired := some pos, pendingFold := none, cycle := .opening ⟨s.lineTime, s.head.setup.gap⟩ } ∧
          (∀ g, segmentOf n s = some g → s.feed.position - pos ≤ g.lagLimit →
            t.map.segments = s.map.segments.map (fun g => if g.serial = n then { g with fired := countTo 65535 g.fired } else g) ∧
              t.notices = s.notices) ∧
          (∀ g, segmentOf n s = some g → g.lagLimit < s.feed.position - pos →
            t.map.segments =
                s.map.segments.map (fun g =>
                  if g.serial = n then
                    { g with
                      fired := countTo 65535 g.fired, late := countTo 65535 g.late
                      flags := { g.flags with lateFold := true } }
                  else g) ∧
              t.notices = (raise .lateFold s).notices) ∧
          (segmentOf n s = none → t.map = s.map ∧ t.notices = s.notices)) ∧
      (producing s = true → s.head.cycle ≠ .idle → s.head.pendingFold = none →
        reachFold n pos w h s =
          { s with
            head := { s.head with region := .folding, pendingFold := some ⟨n, pos, w, h, s.feed.position⟩ } }) ∧
      (∀ q, producing s = true → s.head.cycle ≠ .idle → s.head.pendingFold = some q → s.run.causes.overrun = false →
        reachFold n pos w h s =
          { haltEntered .overrun { s with head := { s.head with region := .folding } } with
            map := recordedOn n foldMissed (foldsLost s) }) ∧
      (producing s = false →
        reachFold n pos w h s =
          { s with
            head := { s.head with region := .folding }
            map := { s.map with
              segments := s.map.segments.map (fun g =>
                if g.serial = n then
                  { g with missed := countTo 65535 g.missed, flags := { g.flags with missedFold := true } }
                else g) } })) ∧
  (∀ (s : State) (n : Serial) (c : Context), s.planner.contexts.find? (fun x => x.serial = n) = some c →
    let t := openPanel n s
    t = { s with map := t.map, head := { s.head with region := .folding }, planner := t.planner, slots := t.slots,
                 notices := t.notices } ∧
      t.map =
        { s.map with
          segments := s.map.segments ++
            [{ serial := c.serial, tag := c.tag, slot := c.slot, leading := s.carrier.position, trailing := none
               doseMin := c.doseMin, doseMax := c.doseMax, baseTemp := c.baseTemp, lagLimit := c.lagLimit, dose := 0
               fired := 0, late := 0, missed := 0, flags := c.flags }]
          started := s.map.started + 1 } ∧
      (c.planning ≠ none → t.slots = s.slots ∧ t.notices = s.notices ∧
        t.planner =
          { s.planner with
            contexts := s.planner.contexts.map (fun x => if x.serial = n then { x with startConsumed := true } else x) }) ∧
      (c.planning = none →
        t.planner = { s.planner with contexts := s.planner.contexts.eraseP (fun x => x.serial = n) } ∧
        (∀ i : Fin 16, t.slots[i] = if i = c.slot then slotReleased 1 s.slots[i] else s.slots[i]) ∧
        t.notices =
          (if s.slots[c.slot].number = 3 ∧ s.slots[c.slot].refs ≤ 1 then (raise .patternReleased s).notices
            else s.notices))) ∧
  (∀ (s : State) (n : Serial),
    let t := closePanel n s
    let complete : Prop :=
      s.run.state = .draining ∧ s.plan = [] ∧ (∀ c ∈ s.planner.contexts, c.planning = none) ∧ s.head.pendingFold = none
    let closed : WebMap :=
      { s.map with
        segments := s.map.segments.map (fun g =>
          if g.serial = n ∧ g.trailing = none then { g with trailing := some s.carrier.position } else g) }
    (¬complete → t = { s with map := closed, head := { s.head with region := .folding } }) ∧
      (complete →
        t = { s with
              map := closed
              head := { s.head with region := .folding }
              run := { s.run with state := .stopped, lastChange := s.lineTime }
              feed := { s.feed with excursion := 0 }
              notices := (raise .drained s).notices })) ∧
  (∀ (a b : Bool) (s : State) (e : PlanEntry) (rest : List PlanEntry), ForwardTick a b s → s.plan = e :: rest →
    e.position ≤ s.feed.position + 1 → NoEntryReached (s.feed.position + 1) rest →
    NoMarkMissed (s.feed.position + 1) s s.marks.list → NoSplicePointReached (s.feed.position + 1) s.unwind →
    let u := { forwardTicked a b s with plan := rest }
    (∀ w h, e.kind = .fold w h →
        exec (.feedEncoderChange a b) s = .next (refreshHead (reachFold e.serial e.position w h u))) ∧
      (e.kind = .panelStart → s.map.segments.length < 24 →
        exec (.feedEncoderChange a b) s = .next (refreshHead (openPanel e.serial u))) ∧
      (e.kind = .panelStart → 24 ≤ s.map.segments.length →
        exec (.feedEncoderChange a b) s = .next (causeAdded .mapFull (forwardTicked a b s))) ∧
      (∀ len ok, e.kind = .flat len ok →
        exec (.feedEncoderChange a b) s =
          .next (refreshHead { u with head := { u.head with region := .flat e.position (e.position + len) } })) ∧
      (e.kind = .panelEnd → exec (.feedEncoderChange a b) s = .next (refreshHead (closePanel e.serial u)))) ∧
  (∀ (a b : Bool) (s : State), ForwardTick a b s → NoMarkMissed (s.feed.position + 1) s s.marks.list →
    NoSplicePointReached (s.feed.position + 1) s.unwind →
    ∃ t, exec (.feedEncoderChange a b) s = .next t ∧ Consumes (forwardTicked a b s) t) ∧
  ∀ v : State, Refreshed v (refreshHead v)

/-- R89, R87: SET_HEAD is refused STATE while the line produces, RANGE out of range, and otherwise replaces the setup and
recomputes the ceiling. -/
def Obligations.SetHeadTaken : Prop :=
  ∀ (s : State) (l : Link) (r : QueuedRequest), Taking .setHead l r s →
    (producing s = true → exec .setHead s = .next (refuse l r.code .state (grant l s))) ∧
      (let depth (c : Fin 16) : Nat := field r.args (5 + 2 * c.val) 2
       let setup : HeadSetup := ⟨field r.args 0 2, field r.args 2 3, Vector.ofFn depth⟩
       let legal : Prop :=
        (200 ≤ setup.gap ∧ setup.gap ≤ 20000) ∧ (1000 ≤ setup.dwell ∧ setup.dwell ≤ 100000) ∧
          (∀ c, depth c ≤ 60000) ∧ ∀ c c' : Fin 16, c < c' → depth c < depth c'
       (producing s = false → ¬legal → exec .setHead s = .next (refuse l r.code .range (grant l s))) ∧
        (producing s = false → legal →
          ∃ c, IsCeiling (ceilingPositions s) (2 * setup.gap + setup.dwell) c ∧
            exec .setHead s =
              .next
                (respond l r.code .granted [] { grant l s with head := { s.head with setup := setup, ceiling := c } })))

/-! ## Run control -/

/-- R104, R94, R95, R85, R81, R141, R142, R168, R163: an assertion of SAFE_STOP_n with SAFE not in the set adds SAFE, and the line is
HALTED: entered now, with its entry record, the excursion 0 and a PLANNED splice returned to DUE, or HALTED already. The head's cycle
ends with every output negated, a fold in OPENING or STRIKE aborted and a pending fold missed; every zone takes a forced close; a
splice in progress fails with SPLICE_FAIL and SPLICE_FAILED, the new and the running roll in CHECK and the interval closed, and the
seam record stands. SAFE_STOP and HALTED are raised, and nothing else changes. With SAFE in the set it raises SAFE_STOP and nothing
else; a negation changes only the level.
That an overflow of the interval that is due and not yet taken is dropped with the interval is the model's choice (log 14). -/
def Obligations.SafeInput : Prop :=
  ∀ s : State, s.inReset = false →
    (s.levels.safeStop = false → s.run.causes.safe = false →
        let entered : Prop := s.run.state ≠ .halted
        let failed : Prop := s.unwind.splice.inProgress = true
        ∃ t, exec .safeStopAssertion s = .next t ∧
          t =
            { s with
              levels := { s.levels with safeStop := true }
              run := t.run
              feed := { s.feed with excursion := t.feed.excursion }
              head := { s.head with
                cycle := .idle, inCycle := none, pendingFold := none, clamp := false, blade := false, strokeW := 0
                strokeH := 0
                bladeGap := if s.head.blade then ⟨s.lineTime, s.head.setup.gap⟩ else s.head.bladeGap }
              map := foldsLost s
              heat := { s.heat with zones := t.heat.zones }
              unwind := t.unwind
              notices := t.notices } ∧
          t.run.state = .halted ∧ (failed → t.run.causes = { s.run.causes with safe := true, spliceFail := true }) ∧
          (¬failed → t.run.causes = { s.run.causes with safe := true }) ∧
          (entered →
            t.run.haltEntry = some (.safe, s.lineTime) ∧ t.run.lastChange = s.lineTime ∧ t.feed.excursion = 0) ∧
          (¬entered →
            t.run.haltEntry = s.run.haltEntry ∧ t.run.lastChange = s.run.lastChange ∧
              t.feed.excursion = s.feed.excursion) ∧
          (∀ z : ZoneId, t.heat.zones.get z = closedAt s.lineTime (s.heat.zones.get z) ∧
            (t.heat.zones.get z).supplyOut = false) ∧
          (failed →
            t.unwind =
              { s.unwind with rolls := t.unwind.rolls, paste := none, knife := none, interval := none, splice := .idle }) ∧
          (∀ new : Side,
            ((∃ d x f fa kn, s.unwind.splice = .fired d new x f fa kn) ∨
              ∃ d x f fa kn, s.unwind.splice = .cutting d new x f fa kn) →
            ∀ side : Side,
              t.unwind.rolls.get side =
                if side = new ∨ runningSide s.unwind = some side then
                  (s.unwind.rolls.get side).map (fun roll => { roll with phase := .check })
                else s.unwind.rolls.get side) ∧
          (¬failed → entered → t.unwind = { s.unwind with splice := dueAgain s.unwind.splice }) ∧
          (¬failed → ¬entered → t.unwind = s.unwind) ∧
          Delivered (fun n => n = .safeStop ∨ n = .halted ∨ (n = .spliceFailed ∧ failed)) s t) ∧
      (s.levels.safeStop = false → s.run.causes.safe = true →
        exec .safeStopAssertion s =
          .next { s with levels := { s.levels with safeStop := true }, notices := (raise .safeStop s).notices }) ∧
      (s.levels.safeStop = true →
        exec .safeStopNegation s = .next { s with levels := { s.levels with safeStop := false } })

/-- R96, R162: RUN is refused STATE outside STOPPED, NO_ROLL without a RUNNING roll, and otherwise moves the line to RUNNING with
an excursion of 0; with a splice DUE, the other roll READY and no seam record it searches the plan, and the first FLAT run that
qualifies makes the splice PLANNED at its middle, with SPLICE_PLANNED. -/
def Obligations.RunTaken : Prop :=
  ∀ (s : State) (l : Link) (r : QueuedRequest), Taking .run l r s →
    (s.run.state ≠ .stopped → exec .run s = .next (refuse l r.code .state (grant l s))) ∧
      (s.run.state = .stopped → rollIs .running s.unwind.rolls.a = false → rollIs .running s.unwind.rolls.b = false →
        exec .run s = .next (refuse l r.code .noRoll (grant l s))) ∧
      (s.run.state = .stopped → (rollIs .running s.unwind.rolls.a = true ∨ rollIs .running s.unwind.rolls.b = true) →
        ∃ t, exec .run s = .next (respond l r.code .granted [] t) ∧
          t = { grant l s with run := t.run, feed := t.feed, unwind := t.unwind, notices := t.notices } ∧
          t.run = { s.run with state := .running, lastChange := s.lineTime } ∧
          t.feed = { s.feed with excursion := 0 } ∧ t.unwind.rolls = s.unwind.rolls ∧
          (((∀ d, s.unwind.splice ≠ .due d) ∨
              (∀ i, runningSide s.unwind = some i → rollIs .ready (s.unwind.rolls.get (otherSide i)) = false) ∨
              s.unwind.seam ≠ none ∨ ∀ x, ¬SearchFinds s.unwind.settings s.feed.position s.plan x) →
            t.unwind = s.unwind ∧ t.notices = s.notices) ∧
          ∀ d i x, s.unwind.splice = .due d → runningSide s.unwind = some i →
            rollIs .ready (s.unwind.rolls.get (otherSide i)) = true → s.unwind.seam = none →
            SearchFinds s.unwind.settings s.feed.position s.plan x →
            t.unwind =
                { s.unwind with splice := .planned d (otherSide i) x (x - s.unwind.settings.pathLength) } ∧
              t.notices = (raise .splicePlanned s).notices)

/-- R97, R99, R83: DRAIN outside RUNNING and STOP outside RUNNING and DRAINING are refused STATE; a drain already complete stops
the line with DRAINED and answers STOPPED; another answers DRAINING; STOP stops the line, the pending fold missed. -/
def Obligations.DrainAndStopTaken : Prop :=
  ∀ (s : State) (l : Link) (r : QueuedRequest),
    (Taking .drain l r s →
        (s.run.state ≠ .running → exec .drain s = .next (refuse l r.code .state (grant l s))) ∧
        (s.run.state = .running → s.plan = [] → (∀ c ∈ s.planner.contexts, c.planning = none) →
          s.head.pendingFold = none →
          exec .drain s =
            .next
              (respond l r.code .granted [0]
                { grant l s with
                  run := { s.run with state := .stopped, lastChange := s.lineTime }
                  feed := { s.feed with excursion := 0 }
                  notices := (raise .drained s).notices })) ∧
        (s.run.state = .running →
          (s.plan ≠ [] ∨ (∃ c ∈ s.planner.contexts, c.planning ≠ none) ∨ s.head.pendingFold ≠ none) →
          exec .drain s =
            .next
              (respond l r.code .granted [2]
                { grant l s with run := { s.run with state := .draining, lastChange := s.lineTime } }))) ∧
      (Taking .stop l r s →
        (s.run.state = .stopped ∨ s.run.state = .halted →
          exec .stop s = .next (refuse l r.code .state (grant l s))) ∧
        (s.run.state = .running ∨ s.run.state = .draining →
          ∃ t, exec .stop s = .next (respond l r.code .granted [] t) ∧
            t = { grant l s with run := t.run, feed := t.feed, head := t.head, map := t.map } ∧
            t.run = { s.run with state := .stopped, lastChange := s.lineTime } ∧
            t.feed = { s.feed with excursion := 0 } ∧ t.head = { s.head with pendingFold := none } ∧
            (s.head.pendingFold = none → t.map = s.map) ∧
            ∀ p, s.head.pendingFold = some p →
              t.map =
                { s.map with
                  segments := s.map.segments.map (fun g =>
                    if g.serial = p.serial then
                      { g with missed := countTo 65535 g.missed, flags := { g.flags with missedFold := true } }
                    else g) }))

/-- R101: HALT is accepted in every run state, adds OPERATOR with the effects of R94, and reports the set as it stands after it.
R94, R95, R84, R81, R163, R167: an entry into HALTED for any cause but SAFE: HALTED raised, the entry record and the time of change,
the excursion 0; a fold in OPENING or STRIKE aborted, the closing gap begun now with BLADE negated, and flagged ABORTED_FOLD on its
segment; a cycle in CLOSING left to end; a pending fold counted missed; a PLANNED splice returned to DUE, a FIRED or CUTTING one left
to finish. -/
def Obligations.HaltTaken : Prop :=
  (∀ (s : State) (l : Link) (r : QueuedRequest), Taking .halt l r s → HaltInv s → l = .line ∧ r.args = [] ∧
    ∃ t, exec .halt s = .next (respond l r.code .granted [BitVec.ofNat 8 t.run.causes.bits] t) ∧
      t.run.causes = { s.run.causes with operator := true } ∧ t.run.state = .halted ∧
      (s.run.causes.operator = true → s.run.state = .halted → t = grant l s) ∧
      (s.run.causes.operator = false → t.notices = (raise .halted s).notices ∧
        (s.run.state = .halted →
          t = { grant l s with run := { s.run with causes := t.run.causes }, notices := t.notices }) ∧
        (s.run.state ≠ .halted →
          t =
            { grant l s with
              run := ⟨.halted, t.run.causes, some (.operator, s.lineTime), s.lineTime⟩
              feed := { s.feed with excursion := 0 }
              head := headHalted s
              map := foldsLost s
              unwind := { s.unwind with splice := t.unwind.splice }
              notices := t.notices } ∧
          (∀ d i x f, s.unwind.splice = .planned d i x f → t.unwind.splice = .due d) ∧
          ((∀ d i x f, s.unwind.splice ≠ .planned d i x f) → t.unwind = s.unwind)))) ∧
    ∀ (c : Cause) (s : State), c ≠ .safe → addCause c s = causeAdded c s

/-- R102, R103, R79, R82: RESUME is refused STATE outside HALTED, CAUSE_ACTIVE while a cause in the set has its condition, and
otherwise empties the set and stops the line, the halt entry record kept; with SAFE removed the head's outputs return.
That the gap CLAMP waits for is compared anew modulo 2^48 after it has passed is the model's choice (log 39). -/
def Obligations.ResumeTaken : Prop :=
  ∀ (s : State) (l : Link) (r : QueuedRequest), Taking .resume l r s →
    let active : Prop :=
      (s.run.causes.safe = true ∧ s.levels.safeStop = true) ∨
        (s.run.causes.mapFull = true ∧ 24 ≤ s.map.segments.length) ∨
        (s.run.causes.rollOut = true ∧
          ∀ roll, runningRoll s.unwind = some roll → roll.length ≤ s.unwind.settings.endReserve) ∨
        (s.run.causes.spliceFail = true ∧
          (rollIs .check s.unwind.rolls.a = true ∨ rollIs .check s.unwind.rolls.b = true))
    (s.run.state ≠ .halted → exec .resume s = .next (refuse l r.code .state (grant l s))) ∧
      (s.run.state = .halted → active → exec .resume s = .next (refuse l r.code .causeActive (grant l s))) ∧
      (s.run.state = .halted → ¬active →
        ∃ t, exec .resume s = .next (respond l r.code .granted [] t) ∧
          t = { grant l s with run := t.run, head := t.head } ∧
          t.run = { s.run with state := .stopped, causes := CauseSet.none, lastChange := s.lineTime } ∧
          (s.run.causes.safe = false → t.head = s.head) ∧
          (s.run.causes.safe = true → s.head.cycle = .idle →
            t.head =
              { s.head with
                strokeW := s.head.latchW, strokeH := s.head.latchH
                clamp := s.head.clamp || decide (s.head.bladeGap.dur ≤ elapsed s.lineTime s.head.bladeGap.start) }) ∧
          (s.head.cycle ≠ .idle → t.head = s.head))

/-- R106, R3, R10, R33, R43, R45, R56, R72, R92, R127, R175: the line clear, with PATTERN_RELEASED exactly when a RETIRING slot
empties and no other notice.
The model's choice in it: the zeroed positions are no change of position (log 28). -/
def Obligations.LineClear : Prop :=
  ∀ (s : State) (l : Link) (r : QueuedRequest), Taking .clearLine l r s →
    (producing s = true → exec .clearLine s = .next (refuse l r.code .state (grant l s))) ∧
      (producing s = false → s.plan.length < 256 → s.planner.contexts.length < 256 → s.map.segments.length < 256 →
        ∃ t,
          exec .clearLine s =
            .next
              (respond l r.code .granted
                [BitVec.ofNat 8 s.plan.length, BitVec.ofNat 8 s.planner.contexts.length,
                  BitVec.ofNat 8 s.map.segments.length] t) ∧
          t = { grant l s with
                feed := { s.feed with position := 0 }
                carrier := { s.carrier with position := 0 }
                slots := t.slots
                planner := ⟨none, none, s.planner.nextSerial, []⟩
                plan := []
                marks := { s.marks with list := [], measurement := none, last := none }
                head := { s.head with
                  pendingFold := none, lastFired := none, region := .folding, ceiling := 4294967295 }
                map := { s.map with
                  segments := [], cleared := s.map.cleared + BitVec.ofNat 32 s.map.segments.length }
                exitUnit := { s.exitUnit with gate := false }
                unwind := { s.unwind with splice := t.unwind.splice, seam := none }
                notices := t.notices } ∧
          (∀ i : Fin 16, t.slots[i] = slotReleased (s.planner.contexts.countP (fun c => c.slot == i)) s.slots[i]) ∧
          ((∃ i : Fin 16, s.slots[i].number = 3 ∧ t.slots[i] = .empty) →
            t.notices = (raise .patternReleased s).notices) ∧
          ((∀ i : Fin 16, s.slots[i].number = 3 → t.slots[i] ≠ .empty) → t.notices = s.notices) ∧
          (∀ i x f, s.unwind.splice = .planned .request i x f → t.unwind.splice = .due .request) ∧
          (∀ i x f, s.unwind.splice = .planned .reserve i x f →
            (∀ roll, runningRoll s.unwind = some roll → roll.length ≤ s.unwind.settings.changeReserve →
              t.unwind.splice = .due .reserve) ∧
            (∀ roll, runningRoll s.unwind = some roll → s.unwind.settings.changeReserve < roll.length →
              t.unwind.splice = .idle)) ∧
          (∀ d i x f fa kn, s.unwind.splice = .fired d i x f fa kn →
            t.unwind.splice = .fired d i x f fa (kn - s.feed.position)) ∧
          ((s.unwind.splice = .idle ∨ (∃ d, s.unwind.splice = .due d) ∨
              ∃ d i x f fa kn, s.unwind.splice = .cutting d i x f fa kn) →
            t.unwind.splice = s.unwind.splice))

/-! ## Pattern store and panel queue -/

/-- R19 to R24, R196: loading a pattern: OPEN_PATTERN, ADD_STEPS and CLOSE_PATTERN, with their checks in R19's order, and the bit
string in which ADD_STEPS carries its slot and its steps.
The widths of the responses' fields are log 7. -/
def Obligations.PatternLoading : Prop :=
  ∀ (s : State) (l : Link) (r : QueuedRequest),
    (Taking .openPattern l r s →
        (15 < field r.args 0 1 → exec .openPattern s = .next (refuse l r.code .range (grant l s))) ∧
        ∀ i : Fin 16, field r.args 0 1 = i.val →
          (s.slots[i] ≠ .empty → exec .openPattern s = .next (refuse l r.code .slotState (grant l s))) ∧
          (s.slots[i] = .empty →
            let repeatLen := field r.args 3 3
            let legal : Prop :=
              (repeatLen = 0 ∨
                  (10000 ≤ repeatLen ∧ repeatLen ≤ 2000000 ∧ 20 ≤ field r.args 8 2 ∧ field r.args 8 2 ≤ 5000)) ∧
                field r.args 6 2 ≤ 2000 ∧ field r.args 10 2 ≤ 2000 ∧ field r.args 12 3 ≤ field r.args 15 3 ∧
                field r.args 18 2 ≤ 2000
            (¬legal → exec .openPattern s = .next (refuse l r.code .range (grant l s))) ∧
              (legal →
                exec .openPattern s =
                  .next
                    (respond l r.code .granted [BitVec.ofNat 8 i.val]
                      { grant l s with
                        slots := s.slots.set i
                          (.loading
                            ⟨field r.args 1 2, repeatLen, field r.args 6 2,
                              if repeatLen = 0 then 0 else field r.args 8 2, field r.args 10 2, field r.args 12 3,
                              field r.args 15 3, field r.args 18 2⟩ []) })))) ∧
      (Taking .addSteps l r s →
        let bit (i : Nat) : Bool := (r.args.getD (i / 8) 0).getLsbD (i % 8)
        let bits (from_ width : Nat) : Nat := ((List.range width).map (fun j => if bit (from_ + j) then 2 ^ j else 0)).sum
        let carried (i : Nat) : PatternStep :=
          let b := 4 + 59 * i
          { kind :=
              match bit b, bit (b + 1) with
              | false, false => .knife
              | true, false => .box
              | false, true => .accordion
              | true, true => .flat
            pitch := bits (b + 2) 17, waist := bits (b + 19) 16, hem := bits (b + 35) 16, count := bits (b + 51) 8
            spliceOk := bit (b + 19) }
        let legal (x : PatternStep) : Prop :=
          (1 ≤ x.count ∧ x.count ≤ 255) ∧
            (x.kind ≠ .accordion → 1000 ≤ x.pitch ∧ x.pitch ≤ 99999) ∧
            (x.kind ≠ .flat → x.waist ≤ 40000 ∧ x.hem ≤ 40000) ∧ (x.kind = .accordion → 500 ≤ max x.waist x.hem)
        let kept (x : PatternStep) : PatternStep :=
          match x.kind with
          | .knife | .box => { x with spliceOk := false }
          | .accordion => { x with pitch := 0, spliceOk := false }
          | .flat => { x with waist := 0, hem := 0 }
        ∃ n, 1 ≤ n ∧ n ≤ 8 ∧ r.args.length = (4 + 59 * n + 7) / 8 ∧
          ∀ i : Fin 16, i.val = bits 0 4 →
            let added := (List.range n).map carried
            ((∀ h st, s.slots[i] ≠ .loading h st) →
              exec .addSteps s = .next (refuse l r.code .slotState (grant l s))) ∧
            ∀ h st, s.slots[i] = .loading h st →
              ((∃ x ∈ added, ¬legal x) → exec .addSteps s = .next (refuse l r.code .range (grant l s))) ∧
              ((∀ x ∈ added, legal x) → (poolFree s.slots < n ∨ 128 < st.length + n) →
                exec .addSteps s = .next (refuse l r.code .full (grant l s))) ∧
              ((∀ x ∈ added, legal x) → n ≤ poolFree s.slots → st.length + n ≤ 128 →
                exec .addSteps s =
                  .next
                    (respond l r.code .granted (num 1 (st.length + n) ++ num 2 (poolFree s.slots - n))
                      { grant l s with slots := s.slots.set i (.loading h (st ++ added.map kept)) }))) ∧
      (Taking .closePattern l r s →
        (15 < field r.args 0 1 → exec .closePattern s = .next (refuse l r.code .range (grant l s))) ∧
        ∀ i : Fin 16, field r.args 0 1 = i.val →
          ((∀ h st, s.slots[i] ≠ .loading h st) →
            exec .closePattern s = .next (refuse l r.code .slotState (grant l s))) ∧
          ∀ h st, s.slots[i] = .loading h st →
            ((∀ x ∈ st, x.kind = .flat) → exec .closePattern s = .next (refuse l r.code .invalid (grant l s))) ∧
            ((∃ x ∈ st, x.kind ≠ .flat) →
              exec .closePattern s =
                .next
                  (respond l r.code .granted (num 1 st.length)
                    { grant l s with slots := s.slots.set i (.ready h st 0) })))

/-- R27: DISCARD_PATTERN by the slot's state and count; a discard that empties a slot raises no PATTERN_RELEASED.
The layout of its response is log 7. -/
def Obligations.PatternDiscarded : Prop :=
  ∀ (s : State) (l : Link) (r : QueuedRequest), Taking .discardPattern l r s →
    (15 < field r.args 0 1 → exec .discardPattern s = .next (refuse l r.code .range (grant l s))) ∧
      ∀ i : Fin 16, field r.args 0 1 = i.val →
        (s.slots[i].number = 0 ∨ s.slots[i].number = 3 →
          exec .discardPattern s = .next (refuse l r.code .slotState (grant l s))) ∧
        ((∃ h st, s.slots[i] = .loading h st ∨ s.slots[i] = .ready h st 0) →
          exec .discardPattern s =
            .next (respond l r.code .granted [0, 0, 0] { grant l s with slots := s.slots.set i .empty })) ∧
        ∀ h st n, s.slots[i] = .ready h st (n + 1) → n < 255 →
          exec .discardPattern s =
            .next
              (respond l r.code .granted [3, 1, BitVec.ofNat 8 (n + 1)]
                { grant l s with slots := s.slots.set i (.retiring h st (n + 1)) })

/-- R35, R36, R38, R25, R26, R192: QUEUE_PANEL with its checks in order, and CANCEL_PANEL, which raises QUEUE_EMPTY exactly when no
entry is left, PATTERN_RELEASED exactly when a RETIRING slot empties, and nothing else.
The widths of the responses' fields are log 7. -/
def Obligations.PanelOrders : Prop :=
  ∀ (s : State) (l : Link) (r : QueuedRequest),
    (Taking .queuePanel l r s →
        (15 < field r.args 0 1 → exec .queuePanel s = .next (refuse l r.code .range (grant l s))) ∧
        ∀ i : Fin 16, field r.args 0 1 = i.val →
          (s.slots[i].number ≠ 2 → exec .queuePanel s = .next (refuse l r.code .slotState (grant l s))) ∧
          ∀ h st n, s.slots[i] = .ready h st n →
            let copies := field r.args 5 2
            ((copies = 0 ∨ 999 < copies) → exec .queuePanel s = .next (refuse l r.code .range (grant l s))) ∧
            (1 ≤ copies → copies ≤ 999 → 32 ≤ s.orders.length →
              exec .queuePanel s = .next (refuse l r.code .full (grant l s))) ∧
            (1 ≤ copies → copies ≤ 999 → s.orders.length < 32 →
              exec .queuePanel s =
                .next
                  (respond l r.code .granted [BitVec.ofNat 8 (s.orders.length + 1)]
                    { grant l s with
                      orders := s.orders ++ [⟨i, field r.args 1 4, copies, 0⟩]
                      slots := s.slots.set i (.ready h st (n + 1)) }))) ∧
      (Taking .cancelPanel l r s →
        let tag := field r.args 0 4
        ((∀ o ∈ s.orders, o.tag ≠ tag) → exec .cancelPanel s = .next (refuse l r.code .notFound (grant l s))) ∧
        ((∃ o ∈ s.orders, o.tag = tag) →
          ∃ t,
            exec .cancelPanel s =
              .next
                (respond l r.code .granted
                  (num 1 (s.orders.countP (fun o => o.tag == tag)) ++
                    num 2 ((s.orders.filter (fun o => o.tag == tag)).map (fun o => o.copies - o.started)).sum) t) ∧
            t = { grant l s with
                  orders := s.orders.filter (fun o => o.tag != tag), slots := t.slots, notices := t.notices } ∧
            (∀ i : Fin 16,
              t.slots[i] = slotReleased (s.orders.countP (fun o => o.tag == tag && o.slot == i)) s.slots[i]) ∧
            Delivered
              (fun n =>
                (n = .queueEmpty ∧ ∀ o ∈ s.orders, o.tag = tag) ∨
                  (n = .patternReleased ∧ ∃ i : Fin 16, s.slots[i].number = 3 ∧ t.slots[i] = .empty))
              s t))

/-! ## Steam heat-set -/

/-- R128, R129, R130, R137, R138, R141: a first rising edge arms the measurement; a later one gives the probe its period and
temperature, by the calibration table and rounded half up, and has its zone judge the hot latch; 250,000 µs without an edge disarm
it, set STALE and, at the transition, force the zone closed with PROBE_STALE: its supply ends now, the period's layout follows from
this moment, the applied duty is 0, and what is requested of the zone stands.
That the limit wins over the hysteresis is the model's reading (log 16). -/
def Obligations.ProbeEvents : Prop :=
  ∀ (p : ZoneId) (s : State), s.inReset = false →
    ((s.heat.probes.get p).lastEdge = none →
        exec (.probeRisingEdge p) s =
          .next
            { s with
              levels := probeLevelHigh s.levels p
              heat := { s.heat with
                probes := s.heat.probes.set p { s.heat.probes.get p with lastEdge := some s.lineTime } } }) ∧
      (∀ e, (s.heat.probes.get p).lastEdge = some e →
        let period := elapsed s.lineTime e
        ∃ conv t, Converts (s.heat.probes.get p).table period conv ∧ exec (.probeRisingEdge p) s = .next t ∧
          LatchJudged p
            { s with
              levels := probeLevelHigh s.levels p
              heat := { s.heat with
                probes := s.heat.probes.set p
                  { s.heat.probes.get p with
                    lastEdge := some s.lineTime, lastPeriod := some period, temp := conv.1, range := conv.2
                    stale := false } } }
            t) ∧
      (∀ e, (s.heat.probes.get p).lastEdge = some e → 250000 ≤ elapsed s.lineTime e →
        let probes := s.heat.probes.set p { s.heat.probes.get p with lastEdge := none, stale := true }
        ((s.heat.probes.get p).stale = true →
            exec (.probeStalenessExpiry p) s = .next { s with heat := { s.heat with probes := probes } }) ∧
          ((s.heat.probes.get p).stale = false →
            exec (.probeStalenessExpiry p) s =
              .next
                { s with
                  heat := { s.heat with
                    probes := probes, zones := s.heat.zones.set p (closedAt s.lineTime (s.heat.zones.get p)) }
                  notices := (raise .probeStale s).notices })) ∧
      (∀ w : Zone, (closedAt s.lineTime w).supplyOut = false) ∧
      ∀ (a : Int) (b : Nat), 0 < b →
        2 * b * roundHalfUpInt a b ≤ 2 * a + b ∧ 2 * a + b < 2 * b * (roundHalfUpInt a b + 1)

/-- R139, R140: the valve cycle of a zone: its period start fixes the duty and the layout; SUPPLY, PAUSE and VENT end at their
boundaries. -/
def Obligations.ValveCycle : Prop :=
  ∀ (z : ZoneId) (s : State), s.inReset = false →
    let w := s.heat.zones.get z
    let at_ := elapsed s.lineTime w.period.start
    let after (w' : Zone) : Host.Outcome State Fault Refusal :=
      .next { s with heat := { s.heat with zones := s.heat.zones.set z w' } }
    (w.phase = .rest → w.period.vMs * 1000 ≤ at_ →
        let duty :=
          if (s.heat.probes.get z).stale = true ∨ w.hot = true ∨ s.run.causes.safe = true ∨ w.bound ≤ w.first then 0
          else if s.carrier.standstill = true then min w.requested s.heat.cap
          else w.requested
        let supply := min (duty * s.heat.vMs / 1000) (s.heat.vMs - 2 * s.heat.gMs)
        exec (.valvePeriodStart z) s =
          after
            { w with
              applied := duty
              phase := if supply = 0 then .pause else .supply
              period := ⟨s.lineTime, s.heat.vMs, s.heat.gMs, supply, supply * 1000⟩ }) ∧
      (w.phase = .supply → w.period.supplyUs ≤ at_ → exec (.supplyEnd z) s = after { w with phase := .pause }) ∧
      (w.phase = .pause → w.period.supplyUs + w.period.gMs * 1000 ≤ at_ →
        exec (.pauseEnd z) s =
          after
            { w with
              phase :=
                if w.period.supplyUs + w.period.gMs * 1000 < (w.period.vMs - w.period.gMs) * 1000 then .vent
                else .rest }) ∧
      (w.phase = .vent → (w.period.vMs - w.period.gMs) * 1000 ≤ at_ →
        exec (.ventEnd z) s = after { w with phase := .rest })

/-- R144 to R147, R133: a dose tick: of every closed segment whose trailing distance lies in an enabled zone, a stale probe flags
HEAT_UNKNOWN, another raises the dose by the temperature above the base, with OVER_SET at the first rise above dose max. -/
def Obligations.DoseTick : Prop :=
  ∀ s : State, s.inReset = false → 100000 ≤ elapsed s.lineTime s.heat.lastDose →
    ∃ t, exec .doseTick s = .next t ∧ t = { s with map := t.map, heat := t.heat, notices := t.notices } ∧
      t.heat = { s.heat with lastDose := s.lineTime } ∧ t.map = { s.map with segments := t.map.segments } ∧
      t.map.segments.length = s.map.segments.length ∧
      (∀ (i : Nat) (g g' : Segment), s.map.segments[i]? = some g → t.map.segments[i]? = some g' →
        (g.trailing = none → g' = g) ∧
          ∀ p, g.trailing = some p →
            ((∀ z, ¬LiesIn s.heat z (s.carrier.position - p)) → g' = g) ∧
            ∀ z, LiesIn s.heat z (s.carrier.position - p) → (∀ y, y ≠ z → ¬LiesIn s.heat y (s.carrier.position - p)) →
              ((s.heat.probes.get z).stale = true → g' = { g with flags := { g.flags with heatUnknown := true } }) ∧
              ((s.heat.probes.get z).stale = false →
                let dose := min (g.dose + ((s.heat.probes.get z).temp - g.baseTemp).toNat) 16777215
                g' =
                  { g with
                    dose := dose
                    flags := { g.flags with overSet := g.flags.overSet || decide (g.dose ≤ g.doseMax ∧ g.doseMax < dose) } })) ∧
      ((∃ (i : Nat) (g g' : Segment), s.map.segments[i]? = some g ∧ t.map.segments[i]? = some g' ∧
          g.flags.overSet = false ∧ g'.flags.overSet = true) → t.notices = (raise .overSet s).notices) ∧
      ((∀ (i : Nat) (g g' : Segment), s.map.segments[i]? = some g → t.map.segments[i]? = some g' →
          g'.flags.overSet = g.flags.overSet) → t.notices = s.notices)

/-- R132, R134 to R138, R141: SET_CALIBRATION, SET_HEAT and SET_ZONE_DUTY, with the ranges of 8.2 and 8.3. A new table has its probe's
temperature and RANGE flag recomputed and its zone's hot latch judged anew; new settings have the four latches judged anew, in the
order of the zones: set with a forced close and ZONE_HOT at or above the limit, cleared at or below the limit less the hysteresis.
That a stale probe, or one that has measured nothing, is not judged anew is the model's reading (log 17), and that a hysteresis of 0
does not clear a latch at the limit (log 16). -/
def Obligations.HeatSettings : Prop :=
  ∀ (s : State) (l : Link) (r : QueuedRequest),
    (Taking .setCalibration l r s →
        (producing s = true → exec .setCalibration s = .next (refuse l r.code .state (grant l s))) ∧
        let period (i : Fin 8) : Nat := field r.args (1 + 5 * i.val) 3
        let temp (i : Fin 8) : Int := tempField r.args (4 + 5 * i.val)
        let legal : Prop :=
          (∀ i, 1 ≤ period i ∧ period i ≤ 250000 ∧ -500 ≤ temp i ∧ temp i ≤ 3000) ∧
            ∀ i j : Fin 8, i < j → period j < period i ∧ temp i < temp j
        (producing s = false → (field r.args 0 1 = 0 ∨ 4 < field r.args 0 1 ∨ ¬legal) →
          exec .setCalibration s = .next (refuse l r.code .range (grant l s))) ∧
        ∀ p, producing s = false → zoneOf (field r.args 0 1) = some p → legal →
          ∃ t, exec .setCalibration s = .next (respond l r.code .granted [] t) ∧
            t = { grant l s with heat := t.heat, notices := t.notices } ∧
            (∀ i : Fin 8, (t.heat.probes.get p).table[i] = ⟨period i, temp i⟩) ∧
            (t.heat.probes.get p).stale = (s.heat.probes.get p).stale ∧
            (∀ q, q ≠ p → t.heat.probes.get q = s.heat.probes.get q ∧ t.heat.zones.get q = s.heat.zones.get q) ∧
            ((s.heat.probes.get p).stale = true → t.heat.zones = s.heat.zones ∧
              (t.heat.probes.get p).temp = (s.heat.probes.get p).temp) ∧
            (∀ last, (s.heat.probes.get p).stale = false → (s.heat.probes.get p).lastPeriod = some last →
              Converts (t.heat.probes.get p).table last
                ((t.heat.probes.get p).temp, (t.heat.probes.get p).range)) ∧
            (let old := s.heat.probes.get p
             let table : Vector CalPoint 8 := Vector.ofFn (fun i => ⟨period i, temp i⟩)
             ∃ new : Probe,
               ((old.lastPeriod = none ∨ old.stale = true) → new = { old with table := table }) ∧
               (∀ last, old.lastPeriod = some last → old.stale = false →
                 ∃ conv, Converts table last conv ∧ new = { old with table := table, temp := conv.1, range := conv.2 }) ∧
               LatchJudgedAnew p
                 { grant l s with heat := { s.heat with probes := s.heat.probes.set p new } } t)) ∧
      (Taking .setHeat l r s →
        (producing s = true → exec .setHeat s = .next (refuse l r.code .state (grant l s))) ∧
        let first (i : Fin 4) : Nat := field r.args (8 + 8 * i.val) 3
        let bound (i : Fin 4) : Nat := field r.args (11 + 8 * i.val) 3
        let limit (i : Fin 4) : Int := tempField r.args (14 + 8 * i.val)
        let legal : Prop :=
          (500 ≤ field r.args 0 2 ∧ field r.args 0 2 ≤ 10000) ∧ (10 ≤ field r.args 2 2 ∧ field r.args 2 2 ≤ 500) ∧
            4 * field r.args 2 2 ≤ field r.args 0 2 ∧ field r.args 4 2 ≤ 1000 ∧ field r.args 6 2 ≤ 500 ∧
            (∀ i, 1 ≤ first i ∧ first i ≤ bound i ∧ bound i ≤ s.tracking.exitDistance ∧ 0 ≤ limit i ∧ limit i ≤ 3000) ∧
            ∀ i j : Fin 4, i < j → first i < bound i → first j < bound j → bound i ≤ first j
        (producing s = false → ¬legal → exec .setHeat s = .next (refuse l r.code .range (grant l s))) ∧
        (producing s = false → legal →
          ∃ t, exec .setHeat s = .next (respond l r.code .granted [] t) ∧
            t = { grant l s with heat := t.heat, notices := t.notices } ∧
            t.heat.vMs = field r.args 0 2 ∧ t.heat.gMs = field r.args 2 2 ∧ t.heat.cap = field r.args 4 2 ∧
            t.heat.hysteresis = field r.args 6 2 ∧ t.heat.probes = s.heat.probes ∧ t.heat.lastDose = s.heat.lastDose ∧
            (∀ (i : Fin 4) (z : ZoneId), zoneOf (i.val + 1) = some z →
              (t.heat.zones.get z).first = first i ∧ (t.heat.zones.get z).bound = bound i ∧
              (t.heat.zones.get z).limit = limit i ∧
              (t.heat.zones.get z).requested = (s.heat.zones.get z).requested) ∧
            (let set (w : Zone) (i : Fin 4) : Zone := { w with first := first i, bound := bound i, limit := limit i }
             let m : State :=
               { grant l s with
                 heat := { s.heat with
                   vMs := field r.args 0 2, gMs := field r.args 2 2, cap := field r.args 4 2
                   hysteresis := field r.args 6 2
                   zones :=
                     ⟨set s.heat.zones.z1 0, set s.heat.zones.z2 1, set s.heat.zones.z3 2, set s.heat.zones.z4 3⟩ } }
             ∃ m1 m2 m3, LatchJudgedAnew .z1 m m1 ∧ LatchJudgedAnew .z2 m1 m2 ∧ LatchJudgedAnew .z3 m2 m3 ∧
               LatchJudgedAnew .z4 m3 t))) ∧
      (Taking .setZoneDuty l r s →
        (zoneOf (field r.args 0 1) = none → exec .setZoneDuty s = .next (refuse l r.code .range (grant l s))) ∧
        ∀ z, zoneOf (field r.args 0 1) = some z →
          exec .setZoneDuty s =
            .next
              (respond l r.code .granted (num 2 (min (field r.args 1 2) 1000))
                { grant l s with
                  heat := { s.heat with
                    zones := s.heat.zones.set z
                      { s.heat.zones.get z with requested := min (field r.args 1 2) 1000 } } }))

/-! ## Unwind and flying splice -/

/-- R156 to R159, R161, R162: a pulse of a side that is not running is ignored; one of the running side opens the interval, or
closes and judges it; an accepted diameter has the remaining length judged: at or below the change reserve an IDLE splice becomes
DUE, with ROLL_LOW unless the other roll is READY, and searches the plan; at or below the end reserve, with no splice in progress, a
PLANNED splice returns to DUE and ROLL_OUT is added. An interval counted past 4,194,303 overflows.
The overflow as an event of its own is the model's choice (log 14), the order of the two reserves its reading (log 15). -/
def Obligations.RevolutionPulses : Prop :=
  ∀ (side : Side) (s : State), s.inReset = false →
    (runningSide s.unwind ≠ some side →
        exec (.revolutionPulse side) s = .next { s with levels := revHigh s.levels side }) ∧
      (runningSide s.unwind = some side → s.unwind.interval = none →
        exec (.revolutionPulse side) s =
          .next { s with levels := revHigh s.levels side, unwind := { s.unwind with interval := some ⟨0, false⟩ } }) ∧
      (∀ i roll, runningSide s.unwind = some side → s.unwind.interval = some i → i.n ≤ 4194303 →
        s.unwind.rolls.get side = some roll →
        let c := roundHalfUp (i.n * s.tracking.feedTick * 113) 355000
        ((i.spoiled = true ∨ i.n < 1000) →
          exec (.revolutionPulse side) s =
            .next
              { s with
                levels := revHigh s.levels side
                unwind := { s.unwind with
                  interval := some ⟨0, false⟩
                  rolls := s.unwind.rolls.set side (some { roll with held := countTo 255 roll.held }) } }) ∧
        (i.spoiled = false → 1000 ≤ i.n → (c < roll.core ∨ roll.diameter < c) →
          exec (.revolutionPulse side) s =
            .next
              { s with
                levels := revHigh s.levels side
                unwind := { s.unwind with
                  interval := some ⟨0, false⟩
                  rolls := s.unwind.rolls.set side (some { roll with stale := false, held := countTo 255 roll.held }) } }) ∧
        (i.spoiled = false → 1000 ≤ i.n → roll.core ≤ c → c ≤ roll.diameter →
          let len := if roll.core < c then 355 * (c * c - roll.core * roll.core) / (452 * roll.thickness) else 0
          let rolls := s.unwind.rolls.set side (some { roll with stale := false, diameter := c, length := len })
          ∃ t, exec (.revolutionPulse side) s = .next t ∧
            ReservesJudged
              { s with
                levels := revHigh s.levels side
                unwind := { s.unwind with interval := some ⟨0, false⟩, rolls := rolls } }
              t)) ∧
      (∀ i roll, runningSide s.unwind = some side → s.unwind.interval = some i → 4194303 < i.n →
        s.unwind.rolls.get side = some roll →
        ∃ t, exec .intervalOverflow s = .next t ∧ t = { s with unwind := t.unwind, notices := t.notices } ∧
          t.unwind =
            { s.unwind with interval := none, rolls := s.unwind.rolls.set side (some { roll with stale := true }) } ∧
          (roll.stale = false → t.notices = (raise .diameterStale s).notices) ∧
          (roll.stale = true → t.notices = s.notices)) ∧
      ∀ a b : Nat, 0 < b → 2 * b * roundHalfUp a b ≤ 2 * a + b ∧ 2 * a + b < 2 * b * (roundHalfUp a b + 1)

/-- R165, R166, R159, R161: the ends of the paster's and the knife's dwells; the second to end in CUTTING completes the splice: the
record is IDLE, and the new roll is judged against both reserves, which may make the record DUE again, or PLANNED by its search, or
add ROLL_OUT.
The order of the two reserves at completion is the model's reading (log 15).
That an overflow of the interval that is due and not yet taken is dropped with the interval is the model's choice (log 14). -/
def Obligations.SplicePulsesEnd : Prop :=
  ∀ s : State, s.inReset = false →
    (∀ side p, s.unwind.paste = some (side, p) → p.dur ≤ elapsed s.lineTime p.start →
        ((s.unwind.knife ≠ none ∨ ∀ d i x f fa kn, s.unwind.splice ≠ .cutting d i x f fa kn) →
          exec .pasteDwellExpiry s = .next { s with unwind := { s.unwind with paste := none } })) ∧
      (∀ k, s.unwind.knife = some k → k.dur ≤ elapsed s.lineTime k.start →
        ((s.unwind.paste ≠ none ∨ ∀ d i x f fa kn, s.unwind.splice ≠ .cutting d i x f fa kn) →
          exec .knifeDwellExpiry s = .next { s with unwind := { s.unwind with knife := none } })) ∧
      ∀ (c : Instr) d i x f fa kn roll, s.unwind.splice = .cutting d i x f fa kn →
        s.unwind.rolls.get i = some roll →
        ((c = .pasteDwellExpiry ∧ s.unwind.knife = none ∧
            ∃ side p, s.unwind.paste = some (side, p) ∧ p.dur ≤ elapsed s.lineTime p.start) ∨
          (c = .knifeDwellExpiry ∧ s.unwind.paste = none ∧
            ∃ k, s.unwind.knife = some k ∧ k.dur ≤ elapsed s.lineTime k.start)) →
        ∃ t, exec c s = .next t ∧ t.unwind.paste = none ∧ t.unwind.knife = none ∧ t.unwind.interval = none ∧
          t.unwind.rolls.get i =
            some
              { roll with
                phase := .running, diameter := roll.initial, stale := false
                length :=
                  if roll.core < roll.initial then
                    355 * (roll.initial * roll.initial - roll.core * roll.core) / (452 * roll.thickness)
                  else 0 } ∧
          (∀ o, s.unwind.rolls.get (otherSide i) = some o → o.phase = .running →
            t.unwind.rolls.get (otherSide i) = some { o with phase := .spent }) ∧
          t.unwind.seam = s.unwind.seam ∧ t.feed.position = s.feed.position ∧ t.plan = s.plan ∧ t.links = s.links ∧
          (s.notices.unwind.subscription.roll = true → Notice.spliceDone ∈ t.notices.unwind.pendingSet) ∧
          (let taken : RollRecord :=
             { roll with
               phase := .running, diameter := roll.initial, stale := false
               length :=
                 if roll.core < roll.initial then
                   355 * (roll.initial * roll.initial - roll.core * roll.core) / (452 * roll.thickness)
                 else 0 }
           let across : Option RollRecord :=
             (s.unwind.rolls.get (otherSide i)).map (fun o => if o.phase = .running then { o with phase := .spent } else o)
           ReservesJudged
             { s with
               unwind := { s.unwind with
                 rolls := (s.unwind.rolls.set i (some taken)).set (otherSide i) across
                 paste := none, knife := none, interval := none, splice := .idle }
               notices := (raise .spliceDone s).notices } t)

/-- R163 to R165, R169, R70: a PLANNED splice whose fire position the fabric has reached fires while the line produces (the paster,
the seam record, and with no knife delay the knife in the same event) and returns to DUE at rest; a FIRED one whose knife position is
reached asserts the knife; a seam reached at the head is removed, flags the open segment unless the current region is a flat run that
holds it, sets k to 65,536, removes the last accepted mark and raises SEAM_PASSED, and a DUE splice is then searched, the seam record
gone (R162). A forward tick that reaches no plan entry and misses no mark does these three checks, in this order (log 18), with the
state the tick left; that the tick leaves an interval of 4,194,303 open at 4,194,304 is the model's choice (log 14). -/
def Obligations.SplicePositions : Prop :=
  (∀ s : State,
    (∀ r i x f, s.unwind.splice = .planned r i x f → f ≤ s.feed.position →
        let fa := s.feed.position
        let asserted : UnwindUnit :=
          { s.unwind with
            paste := some (i, ⟨s.lineTime, s.unwind.settings.pasteDwellMs * 1000⟩)
            seam := some (fa + s.unwind.settings.pathLength)
            splice := .fired r i x f fa (fa + s.unwind.settings.knifeDelay) }
        (producing s = true → 1 ≤ s.unwind.settings.knifeDelay → fireCheck s = { s with unwind := asserted }) ∧
          (producing s = true → s.unwind.settings.knifeDelay = 0 →
            fireCheck s =
              { s with
                unwind := { asserted with
                  knife := some ⟨s.lineTime, s.unwind.settings.knifeDwell⟩, splice := .cutting r i x f fa fa } }) ∧
          (producing s = false → fireCheck s = { s with unwind := { s.unwind with splice := .due r } })) ∧
      (∀ r i x f, s.unwind.splice = .planned r i x f → s.feed.position < f → fireCheck s = s) ∧
      ((∀ r i x f, s.unwind.splice ≠ .planned r i x f) → fireCheck s = s) ∧
      ((∀ r i x f fa kn, s.unwind.splice ≠ .fired r i x f fa kn) → knifeCheck s = s) ∧
      (s.unwind.seam = none → seamCheck s = s) ∧
      (∀ r i x f fa kn, s.unwind.splice = .fired r i x f fa kn →
        (kn ≤ s.feed.position →
          knifeCheck s =
            { s with
              unwind := { s.unwind with
                knife := some ⟨s.lineTime, s.unwind.settings.knifeDwell⟩, splice := .cutting r i x f fa kn } }) ∧
        (s.feed.position < kn → knifeCheck s = s)) ∧
      ∀ p, s.unwind.seam = some p →
        (s.feed.position < p → seamCheck s = s) ∧
          (p ≤ s.feed.position →
            let t := seamCheck s
            let inFlat : Prop := ∃ a b, s.head.region = .flat a b ∧ a ≤ p ∧ p < b
            t = { s with unwind := t.unwind, marks := t.marks, map := t.map, notices := t.notices } ∧
              t.unwind.seam = none ∧ t.marks = { s.marks with k := 65536, last := none } ∧
              ((openSegment s = none ∨ inFlat) → t.map = s.map) ∧
              (∀ g, openSegment s = some g → ¬inFlat →
                t.map =
                  { s.map with
                    segments := s.map.segments.map (fun w =>
                      if w.serial = g.serial then { w with flags := { w.flags with seam := true } } else w) }) ∧
              ((∀ d, s.unwind.splice ≠ .due d) →
                t.unwind = { s.unwind with seam := none } ∧ t.notices = (raise .seamPassed s).notices) ∧
              Searched
                { s with
                  unwind := { s.unwind with seam := none }, marks := { s.marks with k := 65536, last := none }
                  map := t.map, notices := (raise .seamPassed s).notices }
                t)) ∧
  ∀ (a b : Bool) (s : State), ForwardTick a b s → NoEntryReached (s.feed.position + 1) s.plan →
    NoMarkMissed (s.feed.position + 1) s s.marks.list →
    let u := forwardTicked a b s
    exec (.feedEncoderChange a b) s = .next (seamCheck (knifeCheck (fireCheck u))) ∧
      (∀ r i x f, s.unwind.splice = .planned r i x f → s.feed.position + 1 < f → fireCheck u = u) ∧
      ((∀ r i x f, s.unwind.splice ≠ .planned r i x f) → fireCheck u = u) ∧
      ((∀ r i x f fa kn, s.unwind.splice ≠ .fired r i x f fa kn) → knifeCheck u = u) ∧
      (s.unwind.seam = none → seamCheck u = u)

/-- R153 to R155, R159, R161 to R163: LOAD_ROLL, ROLL_READY, ROLL_WITHDRAW and ROLL_ASSIGN, with their checks in order. ROLL_READY across
from the running roll has a DUE splice searched, which stays DUE where no run qualifies. ROLL_WITHDRAW of the roll that a DUE or
PLANNED splice waits for leaves it DUE with ROLL_LOW, and any other splice record as it was. ROLL_ASSIGN leaves the record IDLE, and
the roll is judged against both reserves.
The order of the two reserves at an assignment is the model's reading (log 15).
That an overflow of the interval that is due and not yet taken is dropped with the interval is the model's choice (log 14). -/
def Obligations.RollRequests : Prop :=
  ∀ (s : State) (l : Link) (r : QueuedRequest),
    (Taking .loadRoll l r s →
        (1 < field r.args 0 1 → exec .loadRoll s = .next (refuse l r.code .range (grant l s))) ∧
        ∀ side, sideOf (field r.args 0 1) = some side →
          let core := field r.args 1 3
          let thick := field r.args 4 2
          let d0 := field r.args 6 3
          let legal : Prop :=
            10000 ≤ core ∧ core ≤ 600000 ∧ 50 ≤ thick ∧ thick ≤ 5000 ∧ core + 1 ≤ d0 ∧ d0 ≤ 2000000
          ((∃ old, s.unwind.rolls.get side = some old ∧ old.phase ≠ .spent) →
            exec .loadRoll s = .next (refuse l r.code .sideState (grant l s))) ∧
          ((∀ old, s.unwind.rolls.get side = some old → old.phase = .spent) →
            (¬legal → exec .loadRoll s = .next (refuse l r.code .range (grant l s))) ∧
            (legal →
              let len := 355 * (d0 * d0 - core * core) / (452 * thick)
              exec .loadRoll s =
                .next
                  (respond l r.code .granted (num 5 len)
                    { grant l s with
                      unwind := { s.unwind with
                        rolls := s.unwind.rolls.set side (some ⟨.loaded, core, thick, d0, d0, len, false, 0⟩) } })))) ∧
      (Taking .rollReady l r s →
        (1 < field r.args 0 1 → exec .rollReady s = .next (refuse l r.code .range (grant l s))) ∧
        ∀ side, sideOf (field r.args 0 1) = some side →
          (rollIs .loaded (s.unwind.rolls.get side) = false →
            exec .rollReady s = .next (refuse l r.code .sideState (grant l s))) ∧
          ∀ old, s.unwind.rolls.get side = some old → old.phase = .loaded →
            ∃ t, exec .rollReady s = .next (respond l r.code .granted [] t) ∧
              t = { grant l s with unwind := t.unwind, notices := t.notices } ∧
              t.unwind.rolls = s.unwind.rolls.set side (some { old with phase := .ready }) ∧
              ((∀ d, s.unwind.splice ≠ .due d) → t.unwind.splice = s.unwind.splice ∧ t.notices = s.notices) ∧
              (∀ d x, s.unwind.splice = .due d → runningSide s.unwind = some (otherSide side) → producing s = true →
                s.unwind.seam = none → SearchFinds s.unwind.settings s.feed.position s.plan x →
                t.unwind.splice = .planned d side x (x - s.unwind.settings.pathLength) ∧
                  t.notices = (raise .splicePlanned s).notices) ∧
              (let m : State :=
                 { grant l s with
                   unwind := { s.unwind with rolls := s.unwind.rolls.set side (some { old with phase := .ready }) } }
               (runningSide s.unwind = some (otherSide side) → Searched m t) ∧
                 (runningSide s.unwind ≠ some (otherSide side) → t = m))) ∧
      (Taking .rollWithdraw l r s →
        (1 < field r.args 0 1 → exec .rollWithdraw s = .next (refuse l r.code .range (grant l s))) ∧
        ∀ side, sideOf (field r.args 0 1) = some side →
          (s.unwind.splice.joining = some side →
            exec .rollWithdraw s = .next (refuse l r.code .state (grant l s))) ∧
          (s.unwind.splice.joining ≠ some side → rollIs .ready (s.unwind.rolls.get side) = false →
            exec .rollWithdraw s = .next (refuse l r.code .sideState (grant l s))) ∧
          ∀ old, s.unwind.splice.joining ≠ some side → s.unwind.rolls.get side = some old → old.phase = .ready →
            ∃ t, exec .rollWithdraw s = .next (respond l r.code .granted [] t) ∧
              t = { grant l s with unwind := t.unwind, notices := t.notices } ∧
              t.unwind.rolls = s.unwind.rolls.set side (some { old with phase := .loaded }) ∧
              (∀ d i x f, s.unwind.splice = .planned d i x f → runningSide s.unwind = some (otherSide side) →
                t.unwind.splice = .due d ∧ t.notices = (raise .rollLow s).notices) ∧
              (∀ d, s.unwind.splice = .due d → runningSide s.unwind = some (otherSide side) →
                t.unwind.splice = .due d ∧ t.notices = (raise .rollLow s).notices) ∧
              ((runningSide s.unwind ≠ some (otherSide side) ∨
                  ((∀ d, s.unwind.splice ≠ .due d) ∧ ∀ d i x f, s.unwind.splice ≠ .planned d i x f)) →
                t.unwind.splice = s.unwind.splice ∧ t.notices = s.notices)) ∧
      (Taking .rollAssign l r s →
        (1 < field r.args 0 1 → exec .rollAssign s = .next (refuse l r.code .range (grant l s))) ∧
        ∀ side, sideOf (field r.args 0 1) = some side →
          ((producing s = true ∨ s.unwind.splice.inProgress = true) →
            exec .rollAssign s = .next (refuse l r.code .state (grant l s))) ∧
          (producing s = false → s.unwind.splice.inProgress = false →
            (∀ old, s.unwind.rolls.get side = some old →
              old.phase ≠ .loaded ∧ old.phase ≠ .ready ∧ old.phase ≠ .check) →
            exec .rollAssign s = .next (refuse l r.code .sideState (grant l s))) ∧
          ∀ old, producing s = false → s.unwind.splice.inProgress = false → s.unwind.rolls.get side = some old →
            (old.phase = .loaded ∨ old.phase = .ready ∨ old.phase = .check) →
            ∃ t, exec .rollAssign s = .next (respond l r.code .granted [] t) ∧
              t.unwind.rolls.get side = some { old with phase := .running } ∧
              (∀ o, s.unwind.rolls.get (otherSide side) = some o → (o.phase = .running ∨ o.phase = .check) →
                t.unwind.rolls.get (otherSide side) = some { o with phase := .spent }) ∧
              (∀ o, s.unwind.rolls.get (otherSide side) = some o → o.phase ≠ .running → o.phase ≠ .check →
                t.unwind.rolls.get (otherSide side) = some o) ∧
              t.unwind.interval = none ∧ t.unwind.paste = s.unwind.paste ∧ t.plan = s.plan ∧ t.carrier = s.carrier ∧
              (let across : Option RollRecord :=
                 (s.unwind.rolls.get (otherSide side)).map (fun o =>
                   if o.phase = .running ∨ o.phase = .check then { o with phase := .spent } else o)
               ReservesJudged
                 { grant l s with
                   unwind := { s.unwind with
                     rolls := (s.unwind.rolls.set side (some { old with phase := .running })).set (otherSide side) across
                     interval := none, splice := .idle } }
                 t))

/-- R159 to R162, R171, R172: SPLICE_NOW, with its search, and SET_UNWIND, with the ranges of 9.8: a PLANNED record returns to DUE,
a DUE record for the reserve to IDLE when the running roll is longer than the new change reserve, an IDLE one becomes DUE when it is
not, and a running roll at or below the new end reserve adds ROLL_OUT. The order of the two reserves is the model's reading
(log 15). -/
def Obligations.SpliceRequests : Prop :=
  ∀ (s : State) (l : Link) (r : QueuedRequest),
    (Taking .spliceNow l r s →
        ((s.unwind.splice ≠ .idle ∨ s.unwind.seam ≠ none) →
          exec .spliceNow s = .next (refuse l r.code .state (grant l s))) ∧
        (s.unwind.splice = .idle → s.unwind.seam = none → runningSide s.unwind = none →
          exec .spliceNow s = .next (refuse l r.code .noRoll (grant l s))) ∧
        ∀ i, s.unwind.splice = .idle → s.unwind.seam = none → runningSide s.unwind = some i →
          ∃ t, exec .spliceNow s = .next (respond l r.code .granted [] t) ∧
            t = { grant l s with unwind := { s.unwind with splice := t.unwind.splice }, notices := t.notices } ∧
            (rollIs .ready (s.unwind.rolls.get (otherSide i)) = false →
              t.unwind.splice = .due .request ∧ t.notices = (raise .rollLow s).notices) ∧
            (rollIs .ready (s.unwind.rolls.get (otherSide i)) = true →
              (producing s = false ∨ ∀ x, ¬SearchFinds s.unwind.settings s.feed.position s.plan x) →
              t.unwind.splice = .due .request ∧ t.notices = s.notices) ∧
            ∀ x, rollIs .ready (s.unwind.rolls.get (otherSide i)) = true → producing s = true →
              SearchFinds s.unwind.settings s.feed.position s.plan x →
              t.unwind.splice = .planned .request (otherSide i) x (x - s.unwind.settings.pathLength) ∧
                t.notices = (raise .splicePlanned s).notices) ∧
      (Taking .setUnwind l r s →
        ((producing s = true ∨ s.unwind.splice.inProgress = true) →
          exec .setUnwind s = .next (refuse l r.code .state (grant l s))) ∧
        let change := field r.args 17 4
        let reserve := field r.args 21 4
        let legal : Prop :=
          (1000 ≤ field r.args 0 3 ∧ field r.args 0 3 ≤ 4000000) ∧ field r.args 3 3 ≤ 1000000 ∧
            (2 ≤ field r.args 6 3 ∧ field r.args 6 3 ≤ 200000) ∧ field r.args 9 3 ≤ 200000 ∧
            (50 ≤ field r.args 12 2 ∧ field r.args 12 2 ≤ 5000) ∧
            (1000 ≤ field r.args 14 3 ∧ field r.args 14 3 ≤ 500000) ∧ change ≤ 1000000000 ∧ reserve ≤ change
        (producing s = false → s.unwind.splice.inProgress = false → ¬legal →
          exec .setUnwind s = .next (refuse l r.code .range (grant l s))) ∧
        (producing s = false → s.unwind.splice.inProgress = false → legal →
          ∃ t judged, exec .setUnwind s = .next (respond l r.code .granted [] t) ∧
            (s.unwind.splice = .idle → judged = .idle) ∧
            (∀ d, (s.unwind.splice = .due d ∨ ∃ i x f, s.unwind.splice = .planned d i x f) →
              (d = .request → judged = .due .request) ∧
                (∀ roll, d = .reserve → runningRoll s.unwind = some roll →
                  judged = if change < roll.length then .idle else .due .reserve) ∧
                (d = .reserve → runningRoll s.unwind = none → judged = .due .reserve)) ∧
            ReservesJudged
              { grant l s with
                unwind := { s.unwind with
                  settings :=
                    ⟨field r.args 0 3, field r.args 3 3, field r.args 6 3, field r.args 9 3, field r.args 12 2,
                      field r.args 14 3, change, reserve⟩
                  splice := judged } }
              t))

/-- R176 to R180, R184, R189, R195, R197: the transactions of a link. At the begin the status byte as it stands; at the
completion of the operation, in a transaction that has begun: a status poll clears the overflow flag, a fetch takes up the oldest
response, a request frame is queued with a credit, else sets the overflow flag with LINK_FULL; at the end a fetch removes its response when
the whole frame was shifted out, and the others change no queue; a transaction cut short gives TRUNCATED; the select negated after
a reset lets the port begin. The bytes of a request frame: byte 0 a request code below 0x40, the number of argument bytes, and as
many of what follows, or none with the over-length mark when the number is above 60. A response frame: the length byte, the code,
the result as 12.4 numbers it, the data. The attention line: asserted while a response waits or a notice pends. A moment that is
not the transaction's next has no effect: the model's choice (log 2). A port that waits for its select negated begins none
(R189), also where the reset interrupted no transaction (log 9).
That a fetch takes up the response at the completion of byte 0, and the record of the bytes shifted out, are the model's (log 6);
that REQUEST_FRAME carries the transaction without an operation is log 34. -/
def Obligations.Transactions : Prop :=
  (frameShape [] = .noByte ∧
    ∀ (code : Byte) (rest : List Byte),
      (code = 0x00 ∨ code = 0x80 → frameShape (code :: rest) = .notRequest) ∧
        (0x3F < code.toNat → code ≠ 0x80 → frameShape (code :: rest) = .noOperation) ∧
        (1 ≤ code.toNat → code.toNat ≤ 0x3F →
          frameShape [code] = .cutShort code ∧
            ∀ (n : Byte) (args : List Byte),
              (60 < n.toNat → frameShape (code :: n :: args) = .complete code true []) ∧
                (n.toNat ≤ 60 → args.length < n.toNat → frameShape (code :: n :: args) = .cutShort code) ∧
                (n.toNat ≤ 60 → n.toNat ≤ args.length →
                  frameShape (code :: n :: args) = .complete code false (args.take n.toNat)))) ∧
  (∀ x : Response,
    x.frame = BitVec.ofNat 8 (x.data.length + 2) :: x.code :: BitVec.ofNat 8 x.result.number :: x.data) ∧
  [ResultCode.granted, .unknown, .role, .length, .state, .range, .slotState, .sideState, .full, .notFound, .invalid, .noRoll,
    .causeActive, .linkFull, .truncated].map ResultCode.number = List.range 15 ∧
  (∀ (s : State) (l : Link),
    attention s l = true ↔ (s.links.get l).responses ≠ [] ∨ (s.notices.get l).pendingSet ≠ []) ∧
  ∀ (s : State) (l : Link), s.inReset = false →
    (exec (.linkSelectNegated l) s =
        .next { s with links := s.links.set l { s.links.get l with awaitDeselect := false } }) ∧
      ((s.links.get l).awaitDeselect = true →
        ∀ moment bytes,
          ∀ c ∈ [Instr.statusPoll ⟨l, moment⟩, .fetch l moment, .requestFrame l moment, .truncated l bytes],
            exec c s = .next s) ∧
      statusOf s l =
        BitVec.ofNat 8
          ((s.links.get l).responses.length +
            8 * (4 - ((s.links.get l).requests.length + (s.links.get l).responses.length)) +
            (if (s.notices.get l).pendingSet = [] then 0 else 64) + (if (s.links.get l).overflow = true then 128 else 0)) ∧
      ((s.links.get l).awaitDeselect = false →
        let port := s.links.get l
        let onPort (p : LinkPort) : State := { s with links := s.links.set l p }
        (∀ c ∈ [Instr.statusPoll ⟨l, .begins⟩, .fetch l .begins, .requestFrame l .begins],
          (port.transaction = none → exec c s = .next (onPort { port with transaction := some (.opening (statusOf s l)) })) ∧
            (port.transaction ≠ none → exec c s = .next s)) ∧
        (∀ first, port.transaction = some (.opening first) →
          exec (.statusPoll ⟨l, .completes [0x00]⟩) s =
              .next (onPort { port with transaction := some .polled, shifted := [first], overflow := false }) ∧
            exec (.fetch l (.completes [0x80])) s =
              .next
                (onPort
                  { port with transaction := some (.fetching port.responses.head?), shifted := [first] }) ∧
            (∀ bytes code long args, frameShape bytes = .complete code long args →
              let judged := { port with
                transaction := some .framed, shifted := first :: List.replicate (bytes.length - 1) 0 }
              (port.requests.length + port.responses.length < 4 →
                exec (.requestFrame l (.completes bytes)) s =
                  .next (onPort { judged with requests := port.requests ++ [⟨code, long, args⟩] })) ∧
                (4 ≤ port.requests.length + port.responses.length →
                  exec (.requestFrame l (.completes bytes)) s =
                    .next (recordFault l (some code) .linkFull (onPort { judged with overflow := true })))) ∧
            (∀ byte : Byte, 0x3F < byte.toNat → byte ≠ 0x80 →
              exec (.requestFrame l (.completes [byte])) s =
                .next (onPort { port with transaction := some .framed, shifted := [first] })) ∧
            (∀ bytes code, frameShape bytes = .cutShort code →
              exec (.truncated l bytes) s =
                .next
                  (recordFault l (some code) .truncated
                    (onPort
                      { port with transaction := none, shifted := first :: List.replicate (bytes.length - 1) 0 }))) ∧
            exec (.truncated l []) s =
              .next (recordFault l none .truncated (onPort { port with transaction := none, shifted := [] })) ∧
            ∀ n, ∀ c ∈ [Instr.statusPoll ⟨l, .ends n⟩, .fetch l (.ends n), .requestFrame l (.ends n)], exec c s = .next s) ∧
        (∀ n,
          let ended (out : List Byte) : LinkPort := { port with transaction := none, shifted := port.shifted ++ out }
          (port.transaction = some .polled →
              exec (.statusPoll ⟨l, .ends n⟩) s = .next (onPort (ended (List.replicate n 0)))) ∧
            (port.transaction = some .framed →
              exec (.requestFrame l (.ends n)) s = .next (onPort (ended (List.replicate n 0)))) ∧
            (port.transaction = some (.fetching none) →
              exec (.fetch l (.ends n)) s = .next (onPort (ended (List.replicate n 0)))) ∧
            ∀ x, port.transaction = some (.fetching (some x)) →
              (x.frame.length ≤ n →
                exec (.fetch l (.ends n)) s =
                  .next
                    (onPort
                      { ended (x.frame ++ List.replicate (n - x.frame.length) 0) with
                        responses := port.responses.tail })) ∧
                (n < x.frame.length → exec (.fetch l (.ends n)) s = .next (onPort (ended (x.frame.take n))))) ∧
        ((∀ first, port.transaction ≠ some (.opening first)) →
          ∀ bytes,
            ∀ c ∈ [Instr.statusPoll ⟨l, .completes bytes⟩, .fetch l (.completes bytes), .requestFrame l (.completes bytes),
              .truncated l bytes], exec c s = .next s))

/-- R181: the arbiter grants whenever a queue holds a request; it chooses the first promoted link with a request in the order
LINE, UNWIND, PATTERN, else the first with a request; the chosen link loses its front request and counts from 0, another link with
a request counts one more, a link without keeps its count. -/
def Obligations.ArbiterChoice : Prop :=
  ∀ s : State,
    let waits (l : Link) : Prop := (s.links.get l).requests ≠ []
    let promoted (l : Link) : Prop := waits l ∧ s.starvation ≤ (s.links.get l).waitCount
    let first (P : Link → Prop) (l : Link) : Prop :=
      P l ∧ (l = .unwind → ¬P .line) ∧ (l = .pattern → ¬P .line ∧ ¬P .unwind)
    (grantee s = none ↔ ∀ l, ¬waits l) ∧
      (∀ l, grantee s = some l →
        ((∃ m, promoted m) → first promoted l) ∧ ((∀ m, ¬promoted m) → first waits l)) ∧
      ∀ l m : Link,
        (grant l s).links.get m =
          if m = l then { s.links.get m with requests := (s.links.get m).requests.tail, waitCount := 0 }
          else if (s.links.get m).requests = [] then s.links.get m
          else { s.links.get m with waitCount := (s.links.get m).waitCount + 1 }

/-- R183, R184: a refusal or link fault is counted, up to 65,535, and recorded with FAULT_CAPTURED when the capture is empty;
a refusal answers with its
code and is so recorded; the link's checks: an unassigned code is refused UNKNOWN, a request not accepted on its link ROLE, one over-length
or of a length it does not admit LENGTH, by the table of 12.3; nothing but the links, the capture and the notices is touched. -/
def Obligations.LinkChecks : Prop :=
  (∀ row ∈ requestTable, requestOf row.code = some row.request ∧ row.request.command = row.command ∧
    (∀ l, row.request.acceptedOn l = true ↔ l ∈ row.links) ∧
    ∀ n, row.request.lengthOk n = true ↔ n ∈ row.lengths) ∧
  (∀ n, (∀ row ∈ requestTable, row.code ≠ n) → requestOf n = none) ∧
  (∀ (l : Link) (code : Option Byte) (why : ResultCode) (s : State),
    let n := if s.capture.count < 65535 then s.capture.count + 1 else s.capture.count
    (s.capture.record = none →
        recordFault l code why s =
          { s with
            capture := ⟨some ⟨l, code, why, s.lineTime⟩, n⟩, notices := (raise .faultCaptured s).notices }) ∧
      ∀ c, s.capture.record = some c → recordFault l code why s = { s with capture := ⟨some c, n⟩ }) ∧
  (∀ (l : Link) (code : Byte) (why : ResultCode) (data : List Byte) (s : State),
    refuse l code why s = recordFault l (some code) why (respond l code why [] s) ∧
      respond l code why data s =
        { s with
          links := s.links.set l
            { s.links.get l with responses := (s.links.get l).responses ++ [⟨code, why, data⟩] } }) ∧
  ∀ (s : State) (l : Link) (r : QueuedRequest), s.inReset = false → grantee s = some l →
    (s.links.get l).requests.head? = some r →
    (requestOf r.code.toNat = none →
        exec .unassignedRequestCode s =
          .next (recordFault l (some r.code) .unknown (respond l r.code .unknown [] (grant l s)))) ∧
      (∀ c, requestOf r.code.toNat = some c → c.acceptedOn l = false →
        exec c.command s = .next (refuse l r.code .role (grant l s))) ∧
      (∀ c, requestOf r.code.toNat = some c → c.acceptedOn l = true →
        (r.overLength = true ∨ c.lengthOk r.args.length = false) →
        exec c.command s = .next (refuse l r.code .length (grant l s))) ∧
      ∀ why, refuse l r.code why (grant l s) =
        { s with
          links := (grant l s).links.set l
            { (grant l s).links.get l with responses := (s.links.get l).responses ++ [⟨r.code, why, []⟩] }
          capture := (refuse l r.code why (grant l s)).capture
          notices := (refuse l r.code why (grant l s)).notices }

/-- R188, R185, R124: SET_LINKS with its checks; READ_FAULT reports and empties the capture; TAKE_REPORT takes the oldest report
and says how many are left.
The layout of the capture record is log 7. -/
def Obligations.LinkRequests : Prop :=
  ∀ (s : State) (l : Link) (r : QueuedRequest),
    (Taking .setLinks l r s →
        (s.links.pattern.requests ≠ [] ∨ s.links.unwind.requests ≠ [] →
          exec .setLinks s = .next (refuse l r.code .state (grant l s))) ∧
        (s.links.pattern.requests = [] → s.links.unwind.requests = [] →
          (field r.args 0 1 < 2 ∨ 15 < field r.args 0 1 →
            exec .setLinks s = .next (refuse l r.code .range (grant l s))) ∧
          (2 ≤ field r.args 0 1 → field r.args 0 1 ≤ 15 →
            exec .setLinks s =
              .next (respond l r.code .granted [] { grant l s with starvation := field r.args 0 1 })))) ∧
      (Taking .readFault l r s →
        exec .readFault s =
          .next
            (respond l r.code .granted
              (optional 10
                  (fun x : CaptureRecord =>
                    num 1 (match x.link with | .line => 0 | .pattern => 1 | .unwind => 2) ++ optional 1 (fun c => [c]) x.code ++
                      num 1 x.fault.number ++ le 6 x.time.toNat)
                  s.capture.record ++
                num 2 s.capture.count)
              { grant l s with capture := ⟨none, s.capture.count⟩ })) ∧
      (Taking .takeReport l r s →
        (s.exitUnit.reports = [] →
          exec .takeReport s = .next (respond l r.code .granted [0, 0] (grant l s))) ∧
        ∀ x xs, s.exitUnit.reports = x :: xs →
          exec .takeReport s =
            .next
              (respond l r.code .granted
                (num 1 xs.length ++
                  1 ::
                    (le 2 x.serial.toNat ++ num 4 x.tag ++ num 1 x.slot.val ++ [if x.accept then 0 else 1] ++
                      num 2 x.flags.bits ++ num 3 x.dose ++ num 2 x.fired ++ num 2 x.late ++ num 2 x.missed ++
                      le 6 x.exitTime.toNat))
                { grant l s with exitUnit := { s.exitUnit with reports := xs } }))

/-- R193, R194: TAKE_NOTICE removes the highest-ranked code of its own link's set and returns it with the number left, or returns
NONE and changes nothing; SUBSCRIBE replaces its own link's subscription, SAFETY always in it, and removes the pending codes
outside it, or is refused RANGE when it names more than the six classes; every other link's notices stand; both are accepted on
every link, with no argument byte and with one.
A notice raised joins the pending set of every link that subscribes to its class, once, and no other (R192), the codes ranked and
classed as R190 lists them. -/
def Obligations.NoticeRequests : Prop :=
  (∀ (l : Link) (n : Nat), RequestCode.takeNotice.acceptedOn l = true ∧ RequestCode.subscribe.acceptedOn l = true ∧
    (RequestCode.takeNotice.lengthOk n = true ↔ n = 0) ∧ (RequestCode.subscribe.lengthOk n = true ↔ n = 1)) ∧
  (∀ (n : Notice) (s : State), raise n s = { s with notices := (raise n s).notices } ∧
    Delivered (fun m => m = n) s (raise n s)) ∧
  [Notice.safeStop, .halted, .drained, .speedHigh, .lateFold, .spliceFailed, .rollLow, .splicePlanned, .spliceDone, .seamPassed,
    .diameterStale, .zoneHot, .probeStale, .overSet, .queueEmpty, .regLost, .reportReady, .patternReleased,
    .faultCaptured].map Notice.rank = List.range' 1 19 ∧
  (∀ (c : ClassSet) (n : Notice),
    c.holds n =
      if n = .safeStop then true
      else if n ∈ [Notice.halted, .drained, .speedHigh, .lateFold] then c.run
      else if n ∈ [Notice.spliceFailed, .rollLow, .splicePlanned, .spliceDone, .seamPassed, .diameterStale] then c.roll
      else if n ∈ [Notice.zoneHot, .probeStale, .overSet] then c.heat
      else if n ∈ [Notice.queueEmpty, .regLost, .reportReady, .patternReleased] then c.flow
      else c.link) ∧
  (∀ (s : State) (l : Link) (r : QueuedRequest), Taking .takeNotice l r s → NoticeInv s →
    ((s.notices.get l).pendingSet = [] → exec .takeNotice s = .next (respond l r.code .granted [0, 0] (grant l s))) ∧
      ((s.notices.get l).pendingSet ≠ [] →
        ∃ n t,
          exec .takeNotice s =
            .next
              (respond l r.code .granted
                [BitVec.ofNat 8 n.rank, BitVec.ofNat 8 (t.notices.get l).pendingSet.length] t) ∧
          n ∈ (s.notices.get l).pendingSet ∧ (∀ m ∈ (s.notices.get l).pendingSet, n.rank ≤ m.rank) ∧
          t = { grant l s with notices := t.notices } ∧
          (t.notices.get l) = { s.notices.get l with pendingSet := (s.notices.get l).pendingSet.erase n } ∧
          ∀ m, m ≠ l → t.notices.get m = s.notices.get m)) ∧
  ∀ (s : State) (l : Link) (r : QueuedRequest), Taking .subscribe l r s →
    (63 < field r.args 0 1 → exec .subscribe s = .next (refuse l r.code .range (grant l s))) ∧
      (field r.args 0 1 ≤ 63 →
        ∃ t,
          exec .subscribe s =
            .next
              (respond l r.code .granted
                (num 1 ((field r.args 0 1) ||| 1) ++
                  num 1 ((s.notices.get l).pendingSet.length - (t.notices.get l).pendingSet.length)) t) ∧
          t = { grant l s with notices := t.notices } ∧
          (t.notices.get l).subscription =
            ⟨(field r.args 0 1).testBit 1, (field r.args 0 1).testBit 2, (field r.args 0 1).testBit 3,
              (field r.args 0 1).testBit 4, (field r.args 0 1).testBit 5⟩ ∧
          (t.notices.get l).pendingSet =
            (s.notices.get l).pendingSet.filter (fun n => (t.notices.get l).subscription.holds n) ∧
          ∀ m, m ≠ l → t.notices.get m = s.notices.get m)

/-- R17, R30, R39, R57, R71, R90, R108, R125, R149, R173, R186, R187, R197: a READ request is accepted on every link, with the argument
bytes 12.3 gives it; in range it answers on its own link with the fields its rule lists, as they stand when it is taken, and changes
no other state; an index or number out of range is refused RANGE. Flags and causes take the bits of 12.4.
What R197 leaves open of the layouts is the model's choice (log 7: presence bytes, the kind of a plan entry without padding, the
spoiled flag by its reason, the newest segment of an empty map, numbers of the link's own kinds), as is the order of the contexts
(log 37); a value too wide for its field is a free value in the field (log 8). The supply time reported after a
forced close is log 19, the planner condition with nothing to plan log 20, the next mark position of an unregistered copy log 31,
the wait counts of the other links after the increment of the reading's own grant log 41. -/
def Obligations.ReadsChangeNothing : Prop :=
  (∀ (l : Link) (n : Nat),
    (∀ c ∈ [RequestCode.readTracking, .readHead, .readRun, .readUnwind, .readStatus, .readTime],
        c.acceptedOn l = true ∧ (c.lengthOk n = true ↔ n = 0)) ∧
      (∀ c ∈ [RequestCode.readQueue, .readPlan, .readMarks, .readMap, .readHeat],
        c.acceptedOn l = true ∧ (c.lengthOk n = true ↔ n = 1)) ∧
      RequestCode.readPattern.acceptedOn l = true ∧ (RequestCode.readPattern.lengthOk n = true ↔ n = 2)) ∧
  (∀ w n : Nat, n < 256 ^ w → num w n = le w n ∧ (le w n).length = w ∧ field (le w n) 0 w = n) ∧
  (∀ f : PanelFlags,
    f.bits =
      ([(f.missedFold, 1), (f.lateFold, 2), (f.abortedFold, 4), (f.seam, 8), (f.underSet, 16), (f.overSet, 32),
        (f.heatUnknown, 64), (f.regLost, 128), (f.strokeClamped, 256)].map (fun x => if x.1 then x.2 else 0)).sum) ∧
  (∀ c : CauseSet,
    c.bits =
      ([(c.safe, 1), (c.operator, 2), (c.overrun, 4), (c.reverse, 8), (c.mapFull, 16), (c.rollOut, 32),
        (c.spliceFail, 64), (c.positionEnd, 128)].map (fun x => if x.1 then x.2 else 0)).sum) ∧
  [Cause.safe, .operator, .overrun, .reverse, .mapFull, .rollOut, .spliceFail, .positionEnd].map Cause.number = List.range 8 ∧
  (∀ slot : Slot,
    slot.number =
      match slot with | .empty => 0 | .loading _ _ => 1 | .ready _ _ _ => 2 | .retiring _ _ _ => 3) ∧
  ∀ (s : State) (l : Link) (r : QueuedRequest) (c : RequestCode), Taking c l r s →
    let answers (d : List Byte) : Prop := exec c.command s = .next (respond l r.code .granted d (grant l s))
    let outOfRange : Prop := exec c.command s = .next (refuse l r.code .range (grant l s))
    let first := field r.args 0 1
    let time (t : LineTime) : List Byte := le 6 t.toNat
    let timerEnd (t : Option Timer) : List Byte :=
      match t with
      | none => 0 :: List.replicate 6 0
      | some t => 1 :: time (t.start + BitVec.ofNat 48 t.dur)
    (c = .readTracking →
        answers
          (num 5 s.feed.position ++ num 1 (if s.feed.direction = .reverse then 1 else 0) ++ num 3 s.feed.excursion ++
            num 4 s.feed.speed ++ flag s.feed.standstill ++ num 5 s.carrier.position ++ flag s.carrier.standstill ++
            time s.lineTime ++ num 2 s.tracking.feedTick ++ num 3 s.tracking.markOffset ++ num 2 s.tracking.markWidthMin ++
            num 2 s.tracking.markWidthMax ++ num 3 s.tracking.reverseTolerance ++ num 2 s.tracking.standstillMs ++
            num 3 s.tracking.exitDistance ++ num 3 s.tracking.cutDwell)) ∧
      (c = .readPattern →
        (15 < first ∨ 127 < field r.args 1 1 → outOfRange) ∧
        ∀ i, slotOf first = some i → field r.args 1 1 ≤ 127 →
          let header (h : Header) : List Byte :=
            num 2 h.tag ++ num 3 h.repeatLen ++ num 2 h.shrink ++ num 2 h.window ++ num 2 h.lagLimit ++ num 3 h.doseMin ++
              num 3 h.doseMax ++ num 2 h.baseTemp
          let step (st : PatternStep) : List Byte :=
            num 1 (match st.kind with | .knife => 0 | .box => 1 | .accordion => 2 | .flat => 3) ++ num 3 st.pitch ++
              num 2 st.waist ++ num 2 st.hem ++ num 1 st.count ++ flag st.spliceOk
          answers
            (num 1 s.slots[i].number ++ num 1 s.slots[i].refs ++ num 1 s.slots[i].steps.length ++
              num 2 (1024 - stepsHeld s.slots) ++ optional 19 header s.slots[i].header? ++
              listBytes step ((s.slots[i].steps.drop (field r.args 1 1)).take 4))) ∧
      (c = .readQueue →
        (31 < first → outOfRange) ∧
        (first ≤ 31 →
          answers
            (num 1 s.orders.length ++ num 2 (s.orders.map (fun o => o.copies - o.started)).sum ++
              listBytes (fun o : PanelOrder => num 1 o.slot.val ++ num 4 o.tag ++ num 2 o.copies ++ num 2 o.started)
                ((s.orders.drop first).take 4)))) ∧
      (c = .readPlan →
        (127 < first → outOfRange) ∧
        (first ≤ 127 →
          ∃ condition, PlannerReports s condition ∧
          let context (x : Context) : List Byte :=
            le 2 x.serial.toNat ++ num 4 x.tag ++ num 1 x.slot.val ++ num 3 x.k ++ num 2 x.flags.bits ++
              flag x.startConsumed ++ flag x.planning.isSome
          let entry (e : PlanEntry) : List Byte :=
            match e.kind with
            | .panelStart => num 1 0 ++ num 5 e.position ++ le 2 e.serial.toNat
            | .fold w h => num 1 1 ++ num 5 e.position ++ le 2 e.serial.toNat ++ num 1 w.toNat ++ num 1 h.toNat
            | .flat len ok => num 1 2 ++ num 5 e.position ++ le 2 e.serial.toNat ++ num 3 len ++ flag ok
            | .panelEnd => num 1 3 ++ num 5 e.position ++ le 2 e.serial.toNat
          answers
            (num 1 s.plan.length ++ num 1 s.marks.list.length ++ optional 5 (num 5) s.planner.cursor ++
              optional 5 (num 5) s.planner.lastAppended ++ le 2 s.planner.nextSerial.toNat ++ num 1 condition ++
              optional 9
                (fun x : Context × PlanningState =>
                  le 2 x.1.serial.toNat ++ num 1 x.2.stepIndex ++ num 1 x.2.pleatIndex ++ num 5 x.2.nextMark)
                (planningCopy s) ++
              listBytes context s.planner.contexts ++ listBytes entry ((s.plan.drop first).take 4)))) ∧
      (c = .readMarks →
        (15 < first → outOfRange) ∧
        (first ≤ 15 →
          let outcome (o : MarkOutcome) : Nat :=
            match o with
            | .accepted => 1 | .stray => 2 | .discardedWidth => 3 | .discardedReverse => 4 | .miss => 5
            | .rejectedK => 6 | .rejectedRange => 7
          answers
            (num 3 s.marks.k ++
              optional 8 (fun a : AcceptedMark => num 5 a.headPos ++ le 2 a.serial.toNat ++ num 1 a.tally) s.marks.last ++
              num 1 s.marks.misses ++
              optional 16
                (fun q : Measurement =>
                  num 5 q.leadPos ++ num 5 q.headPos ++ num 4 q.width ++
                    match q.spoiled with | none => [0, 0] | some .reverse => [1, 0] | some .width => [1, 1])
                s.marks.measurement ++
              num 1 ((s.marks.outcome.map (fun o => outcome o.outcome)).getD 0) ++
              optional 9 (fun o : OutcomeRecord => num 5 o.headPos ++ num 4 o.width) s.marks.outcome ++
              num 1 s.marks.list.length ++
              listBytes
                (fun e : Expectation =>
                  num 5 e.position ++ num 2 e.window ++ le 2 e.serial.toNat ++ num 3 e.index ++ num 3 e.repeatLen)
                ((s.marks.list.drop first).take 4)))) ∧
      (c = .readHead →
        answers
          (num 1 (match s.head.cycle with | .idle => 0 | .opening _ => 1 | .strike _ => 2 | .closing _ => 3) ++
            optional 7 (fun f : FoldInCycle => le 2 f.serial.toNat ++ num 5 f.position) s.head.inCycle ++
            optional 14
              (fun p : PendingFold =>
                le 2 p.serial.toNat ++ num 5 p.position ++ num 1 p.waist.toNat ++ num 1 p.hem.toNat ++ num 5 p.reach)
              s.head.pendingFold ++
            optional 5 (num 5) s.head.lastFired ++ num 1 s.head.latchW.toNat ++ num 1 s.head.latchH.toNat ++
            flag s.head.clamp ++ flag s.head.blade ++ num 1 s.head.strokeW.toNat ++ num 1 s.head.strokeH.toNat ++
            (match s.head.region with
              | .folding => num 1 0 ++ List.replicate 11 0
              | .flat a b => num 1 1 ++ 1 :: (num 5 a ++ num 5 b)) ++
            num 4 s.head.ceiling ++ num 1 s.head.overCount ++ flag s.head.armed ++ num 2 s.head.setup.gap ++
            num 3 s.head.setup.dwell ++ (s.head.setup.table.toList.map (num 2)).flatten)) ∧
      (c = .readRun →
        let active : CauseSet :=
          { CauseSet.none with
            safe := s.run.causes.safe && s.levels.safeStop
            mapFull := s.run.causes.mapFull && decide (24 ≤ s.map.segments.length)
            rollOut :=
              s.run.causes.rollOut &&
                decide (∀ roll ∈ runningRoll s.unwind, roll.length ≤ s.unwind.settings.endReserve)
            spliceFail :=
              s.run.causes.spliceFail && (rollIs .check s.unwind.rolls.a || rollIs .check s.unwind.rolls.b) }
        let complete : Bool :=
          decide (s.plan = []) && decide (∀ x ∈ s.planner.contexts, x.planning = none) && s.head.pendingFold.isNone
        answers
          (num 1 (match s.run.state with | .stopped => 0 | .running => 1 | .draining => 2 | .halted => 3) ++
            num 1 s.run.causes.bits ++ num 1 active.bits ++
            optional 7 (fun h : Cause × LineTime => num 1 h.1.number ++ time h.2) s.run.haltEntry ++
            time s.run.lastChange ++ flag s.levels.safeStop ++ flag complete)) ∧
      (c = .readMap →
        (23 < first → outOfRange) ∧
        (first ≤ 23 →
          let segment (g : Segment) : List Byte :=
            le 2 g.serial.toNat ++ num 4 g.tag ++ num 1 g.slot.val ++ num 5 g.leading ++ optional 5 (num 5) g.trailing ++
              num 3 g.doseMin ++ num 3 g.doseMax ++ num 2 g.baseTemp ++ num 2 g.lagLimit ++ num 3 g.dose ++ num 2 g.fired ++
              num 2 g.late ++ num 2 g.missed ++ num 2 g.flags.bits ++
              num 5 (match g.trailing with | none => 0 | some p => s.carrier.position - p)
          let newest : Bool := match s.map.segments.getLast? with | none => false | some g => g.trailing.isNone
          answers
            (num 1 s.map.segments.length ++ flag newest ++ le 4 s.map.started.toNat ++ le 4 s.map.reported.toNat ++
              le 4 s.map.dropped.toNat ++ le 4 s.map.cleared.toNat ++ num 1 s.exitUnit.reports.length ++
              flag s.exitUnit.cut.isSome ++ flag s.exitUnit.gate ++ timerEnd s.exitUnit.cut ++ num 5 s.carrier.position ++
              listBytes segment ((s.map.segments.drop first).take 2)))) ∧
      (c = .readHeat →
        (first = 0 ∨ 4 < first → outOfRange) ∧
        ∀ z, zoneOf first = some z →
          let brief (x : ZoneId) : List Byte :=
            let w := s.heat.zones.get x
            let q := s.heat.probes.get x
            num 2 w.applied ++
              num 1 (match w.phase with | .supply => 0 | .pause => 1 | .vent => 2 | .rest => 3) ++
              flag (decide (w.phase = .supply)) ++ flag (decide (w.phase = .vent)) ++ flag w.hot ++ tempBytes q.temp ++
              flag q.range ++ flag q.stale
          let w := s.heat.zones.get z
          let q := s.heat.probes.get z
          answers
            (num 2 s.heat.vMs ++ num 2 s.heat.gMs ++ num 2 s.heat.cap ++ num 2 s.heat.hysteresis ++ brief .z1 ++
              brief .z2 ++ brief .z3 ++ brief .z4 ++ num 3 w.first ++ num 3 w.bound ++ tempBytes w.limit ++
              num 2 w.requested ++ time w.period.start ++ num 2 w.period.supplyMs ++ optional 3 (num 3) q.lastPeriod ++
              (q.table.toList.map (fun p => num 3 p.period ++ tempBytes p.temp)).flatten ++ time s.lineTime)) ∧
      (c = .readUnwind →
        let u := s.unwind
        let roll (x : Option RollRecord) : List Byte :=
          match x with
          | none => List.replicate 19 0
          | some x =>
            num 1 (match x.phase with | .loaded => 1 | .ready => 2 | .running => 3 | .spent => 4 | .check => 5) ++
              num 3 x.core ++ num 2 x.thickness ++ num 3 x.initial ++ num 3 x.diameter ++ num 5 x.length ++ flag x.stale ++
              num 1 x.held
        let reason (d : SpliceReason) : List Byte := 1 :: num 1 (match d with | .reserve => 0 | .request => 1)
        let seat (i : Side) (x f : Nat) : List Byte :=
          1 :: num 1 (match i with | .a => 0 | .b => 1) ++ 1 :: num 5 x ++ 1 :: num 5 f
        let splice : List Byte :=
          match u.splice with
          | .idle => num 1 0 ++ List.replicate 28 0
          | .due d => num 1 1 ++ reason d ++ List.replicate 26 0
          | .planned d i x f => num 1 2 ++ reason d ++ seat i x f ++ List.replicate 12 0
          | .fired d i x f fa kn => num 1 3 ++ reason d ++ seat i x f ++ 1 :: num 5 fa ++ 1 :: num 5 kn
          | .cutting d i x f fa kn => num 1 4 ++ reason d ++ seat i x f ++ 1 :: num 5 fa ++ 1 :: num 5 kn
        let paste (i : Side) : Option Timer := match u.paste with | some (j, t) => if j = i then some t else none | none => none
        answers
          (roll u.rolls.a ++ roll u.rolls.b ++
            optional 4 (fun i : RevInterval => num 3 i.n ++ flag i.spoiled) u.interval ++ splice ++
            optional 5 (num 5) u.seam ++ flag (paste .a).isSome ++ flag (paste .b).isSome ++ flag u.knife.isSome ++
            timerEnd (paste .a) ++ timerEnd (paste .b) ++ timerEnd u.knife ++ num 3 u.settings.pathLength ++
            num 3 u.settings.fireMargin ++ num 3 u.settings.seamMin ++ num 3 u.settings.knifeDelay ++
            num 2 u.settings.pasteDwellMs ++ num 3 u.settings.knifeDwell ++ num 4 u.settings.changeReserve ++
            num 4 u.settings.endReserve ++ num 5 s.feed.position)) ∧
      (c = .readStatus →
        let port (x : Link) : List Byte :=
          let p := (grant l s).links.get x
          let waiting := p.responses.length + (if x = l then 1 else 0)
          num 1 p.requests.length ++ num 1 waiting ++ num 1 (4 - (p.requests.length + waiting)) ++ flag p.overflow ++
            num 1 p.waitCount ++ flag (decide (s.starvation ≤ p.waitCount))
        answers
          (num 1 (match s.resetCause.kind with | .power => 0 | .pin => 1) ++ time s.resetCause.time ++ time s.lineTime ++
            num 1 s.starvation ++ num 2 s.capture.count ++ flag s.capture.record.isSome ++ port .line ++ port .pattern ++
            port .unwind)) ∧
      (c = .readTime → answers (time s.lineTime))

/-! ## Invariants that every step keeps -/

/-- R93, R78, R79, R85: every step keeps: HALTED exactly with a cause in the set; BLADE asserted exactly in STRIKE, CLAMP only in
IDLE, and with SAFE in the set the head's outputs negated. -/
def Obligations.HeadStaysSafe : Prop :=
  ∀ s t : State, HaltInv s → HeadInv s → step s = .next t → HaltInv t ∧ HeadInv t

/-- R164 to R168, R152: every step keeps: a paster or the knife asserted only in a splice in progress, none in progress with SAFE
in the set, and at most one roll RUNNING. -/
def Obligations.SpliceStaysSafe : Prop :=
  ∀ s t : State, HaltInv s → SpliceInv s → RollInv s → step s = .next t → SpliceInv t ∧ RollInv t

/-- R140 to R142, R130, R137: every step keeps: no zone supplies steam with SAFE in the set, its latch hot or its probe stale. -/
def Obligations.ValvesStaySafe : Prop := ∀ s t : State, ValveInv s → step s = .next t → ValveInv t

/-- R34, R40, R44, R60, R111, R121, R176, R180: every step keeps the bounds of the part's queues and the credits of every link, and
the response that a fetch is shifting out at the front of its queue. -/
def Obligations.QueuesStayBounded : Prop :=
  (∀ s t : State, RoomInv s → step s = .next t → RoomInv t) ∧
    (∀ s t : State, CreditInv s → step s = .next t → CreditInv t) ∧
    ∀ s t : State, FetchInv s → step s = .next t → FetchInv t

/-- R181, R182: every step keeps the bounds of the head wait counts; so none exceeds 17. -/
def Obligations.NoLinkStarves : Prop :=
  (∀ s t : State, WaitInv s → step s = .next t → WaitInv t) ∧
    ∀ (s : State) (l : Link), WaitInv s → (s.links.get l).waitCount ≤ 17

/-- R116: every step keeps the four panel counters in balance with the segments in the map. -/
def Obligations.PanelsAreAccounted : Prop := ∀ s t : State, CounterInv s → step s = .next t → CounterInv t

/-- R25, R26, R22: every step keeps every slot's count equal to the entries and contexts that name it, and the pool's balance. -/
def Obligations.ReferencesBalance : Prop :=
  ∀ s t : State, ReferenceInv s → PoolInv s → step s = .next t → ReferenceInv t ∧ PoolInv t

/-- R53, R54, R65: every step keeps the plan's positions strictly rising and not beyond the last appended position. -/
def Obligations.PlanStaysOrdered : Prop := ∀ s t : State, PlanInv s → step s = .next t → PlanInv t

/-- R68, R64, R191, R192: every step keeps k in its range, and every pending set ordered and inside its subscription. -/
def Obligations.FactorAndNoticesKept : Prop :=
  (∀ s t : State, FactorInv s → step s = .next t → FactorInv t) ∧
    ∀ s t : State, NoticeInv s → step s = .next t → NoticeInv t

/-- Every invariant holds right after reset. -/
def Obligations.InvariantsAtReset : Prop :=
  HaltInv State.reset ∧ HeadInv State.reset ∧ SpliceInv State.reset ∧ RollInv State.reset ∧ ValveInv State.reset ∧
    RoomInv State.reset ∧ CreditInv State.reset ∧ FetchInv State.reset ∧ WaitInv State.reset ∧ CounterInv State.reset ∧
    ReferenceInv State.reset ∧ PoolInv State.reset ∧ PlanInv State.reset ∧ FactorInv State.reset ∧ NoticeInv State.reset
end

