-- ==== Sys2Proof/Laws/State.lean ====
section
/-!
SUPPORT. The small lemmas of the state: what a named update leaves alone, field by field, and how a part of a PerLink, a
PerSide or a PerZone reads after it is set.
-/

namespace Sys2Proof.Machine

/-! ## One of each per link, side, zone -/

@[simp] theorem perLink_get_set {α : Type} (p : PerLink α) (l : Link) (x : α) : (p.set l x).get l = x := by
  cases l <;> rfl

@[simp] theorem perSide_get_set {α : Type} (p : PerSide α) (i : Side) (x : α) : (p.set i x).get i = x := by
  cases i <;> rfl

@[simp] theorem perZone_get_set {α : Type} (p : PerZone α) (z : ZoneId) (x : α) : (p.set z x).get z = x := by
  cases z <;> rfl

@[simp] theorem perLink_set_set {α : Type} (p : PerLink α) (l : Link) (x y : α) : (p.set l x).set l y = p.set l y := by
  cases l <;> rfl

theorem perLink_get_set_other {α : Type} (p : PerLink α) (l m : Link) (x : α) (h : m ≠ l) :
    (p.set l x).get m = p.get m := by
  cases l <;> cases m <;> first | rfl | exact absurd rfl h

theorem perSide_get_set_other {α : Type} (p : PerSide α) (i j : Side) (x : α) (h : j ≠ i) :
    (p.set i x).get j = p.get j := by
  cases i <;> cases j <;> first | rfl | exact absurd rfl h

theorem perZone_get_set_other {α : Type} (p : PerZone α) (z w : ZoneId) (x : α) (h : w ≠ z) :
    (p.set z x).get w = p.get w := by
  cases z <;> cases w <;> first | rfl | exact absurd rfl h

/-! ## Causes -/

@[simp] theorem causeSet_has_add (c : CauseSet) (x : Cause) : (c.add x).has x = true := by cases x <;> rfl

theorem causeSet_has_add_other (c : CauseSet) (x y : Cause) (h : y ≠ x) : (c.add x).has y = c.has y := by
  cases x <;> cases y <;> first | rfl | exact absurd rfl h

theorem causeSet_add_ne_none (c : CauseSet) (x : Cause) : c.add x ≠ CauseSet.none := by
  intro h
  have : (c.add x).has x = CauseSet.none.has x := by rw [h]
  rw [causeSet_has_add] at this
  cases x <;> cases this

@[simp] theorem causeSet_has_none (x : Cause) : CauseSet.none.has x = false := by cases x <;> rfl

/-! ## What each named update leaves alone -/

@[simp] theorem tick_inReset (s : State) : (tick s).inReset = s.inReset := rfl
@[simp] theorem tick_resetCause (s : State) : (tick s).resetCause = s.resetCause := rfl
@[simp] theorem tick_levels (s : State) : (tick s).levels = s.levels := rfl
@[simp] theorem tick_feed (s : State) : (tick s).feed = s.feed := rfl
@[simp] theorem tick_carrier (s : State) : (tick s).carrier = s.carrier := rfl
@[simp] theorem tick_tracking (s : State) : (tick s).tracking = s.tracking := rfl
@[simp] theorem tick_slots (s : State) : (tick s).slots = s.slots := rfl
@[simp] theorem tick_orders (s : State) : (tick s).orders = s.orders := rfl
@[simp] theorem tick_planner (s : State) : (tick s).planner = s.planner := rfl
@[simp] theorem tick_plan (s : State) : (tick s).plan = s.plan := rfl
@[simp] theorem tick_marks (s : State) : (tick s).marks = s.marks := rfl
@[simp] theorem tick_head (s : State) : (tick s).head = s.head := rfl
@[simp] theorem tick_run (s : State) : (tick s).run = s.run := rfl
@[simp] theorem tick_map (s : State) : (tick s).map = s.map := rfl
@[simp] theorem tick_exitUnit (s : State) : (tick s).exitUnit = s.exitUnit := rfl
@[simp] theorem tick_heat (s : State) : (tick s).heat = s.heat := rfl
@[simp] theorem tick_unwind (s : State) : (tick s).unwind = s.unwind := rfl
@[simp] theorem tick_links (s : State) : (tick s).links = s.links := rfl
@[simp] theorem tick_starvation (s : State) : (tick s).starvation = s.starvation := rfl
@[simp] theorem tick_capture (s : State) : (tick s).capture = s.capture := rfl
@[simp] theorem tick_notices (s : State) : (tick s).notices = s.notices := rfl
@[simp] theorem tick_choices (s : State) : (tick s).choices = s.choices := rfl
@[simp] theorem tick_pending (s : State) : (tick s).pending = s.pending := rfl

@[simp] theorem raise_lineTime (n : Notice) (s : State) : (raise n s).lineTime = s.lineTime := rfl
@[simp] theorem raise_inReset (n : Notice) (s : State) : (raise n s).inReset = s.inReset := rfl
@[simp] theorem raise_resetCause (n : Notice) (s : State) : (raise n s).resetCause = s.resetCause := rfl
@[simp] theorem raise_levels (n : Notice) (s : State) : (raise n s).levels = s.levels := rfl
@[simp] theorem raise_feed (n : Notice) (s : State) : (raise n s).feed = s.feed := rfl
@[simp] theorem raise_carrier (n : Notice) (s : State) : (raise n s).carrier = s.carrier := rfl
@[simp] theorem raise_tracking (n : Notice) (s : State) : (raise n s).tracking = s.tracking := rfl
@[simp] theorem raise_slots (n : Notice) (s : State) : (raise n s).slots = s.slots := rfl
@[simp] theorem raise_orders (n : Notice) (s : State) : (raise n s).orders = s.orders := rfl
@[simp] theorem raise_planner (n : Notice) (s : State) : (raise n s).planner = s.planner := rfl
@[simp] theorem raise_plan (n : Notice) (s : State) : (raise n s).plan = s.plan := rfl
@[simp] theorem raise_marks (n : Notice) (s : State) : (raise n s).marks = s.marks := rfl
@[simp] theorem raise_head (n : Notice) (s : State) : (raise n s).head = s.head := rfl
@[simp] theorem raise_run (n : Notice) (s : State) : (raise n s).run = s.run := rfl
@[simp] theorem raise_map (n : Notice) (s : State) : (raise n s).map = s.map := rfl
@[simp] theorem raise_exitUnit (n : Notice) (s : State) : (raise n s).exitUnit = s.exitUnit := rfl
@[simp] theorem raise_heat (n : Notice) (s : State) : (raise n s).heat = s.heat := rfl
@[simp] theorem raise_unwind (n : Notice) (s : State) : (raise n s).unwind = s.unwind := rfl
@[simp] theorem raise_links (n : Notice) (s : State) : (raise n s).links = s.links := rfl
@[simp] theorem raise_starvation (n : Notice) (s : State) : (raise n s).starvation = s.starvation := rfl
@[simp] theorem raise_capture (n : Notice) (s : State) : (raise n s).capture = s.capture := rfl
@[simp] theorem raise_choices (n : Notice) (s : State) : (raise n s).choices = s.choices := rfl
@[simp] theorem raise_pending (n : Notice) (s : State) : (raise n s).pending = s.pending := rfl

@[simp] theorem onLink_lineTime (l : Link) (f : LinkPort → LinkPort) (s : State) : (onLink l f s).lineTime = s.lineTime := rfl
@[simp] theorem onLink_inReset (l : Link) (f : LinkPort → LinkPort) (s : State) : (onLink l f s).inReset = s.inReset := rfl
@[simp] theorem onLink_resetCause (l : Link) (f : LinkPort → LinkPort) (s : State) : (onLink l f s).resetCause = s.resetCause := rfl
@[simp] theorem onLink_levels (l : Link) (f : LinkPort → LinkPort) (s : State) : (onLink l f s).levels = s.levels := rfl
@[simp] theorem onLink_feed (l : Link) (f : LinkPort → LinkPort) (s : State) : (onLink l f s).feed = s.feed := rfl
@[simp] theorem onLink_carrier (l : Link) (f : LinkPort → LinkPort) (s : State) : (onLink l f s).carrier = s.carrier := rfl
@[simp] theorem onLink_tracking (l : Link) (f : LinkPort → LinkPort) (s : State) : (onLink l f s).tracking = s.tracking := rfl
@[simp] theorem onLink_slots (l : Link) (f : LinkPort → LinkPort) (s : State) : (onLink l f s).slots = s.slots := rfl
@[simp] theorem onLink_orders (l : Link) (f : LinkPort → LinkPort) (s : State) : (onLink l f s).orders = s.orders := rfl
@[simp] theorem onLink_planner (l : Link) (f : LinkPort → LinkPort) (s : State) : (onLink l f s).planner = s.planner := rfl
@[simp] theorem onLink_plan (l : Link) (f : LinkPort → LinkPort) (s : State) : (onLink l f s).plan = s.plan := rfl
@[simp] theorem onLink_marks (l : Link) (f : LinkPort → LinkPort) (s : State) : (onLink l f s).marks = s.marks := rfl
@[simp] theorem onLink_head (l : Link) (f : LinkPort → LinkPort) (s : State) : (onLink l f s).head = s.head := rfl
@[simp] theorem onLink_run (l : Link) (f : LinkPort → LinkPort) (s : State) : (onLink l f s).run = s.run := rfl
@[simp] theorem onLink_map (l : Link) (f : LinkPort → LinkPort) (s : State) : (onLink l f s).map = s.map := rfl
@[simp] theorem onLink_exitUnit (l : Link) (f : LinkPort → LinkPort) (s : State) : (onLink l f s).exitUnit = s.exitUnit := rfl
@[simp] theorem onLink_heat (l : Link) (f : LinkPort → LinkPort) (s : State) : (onLink l f s).heat = s.heat := rfl
@[simp] theorem onLink_unwind (l : Link) (f : LinkPort → LinkPort) (s : State) : (onLink l f s).unwind = s.unwind := rfl
@[simp] theorem onLink_starvation (l : Link) (f : LinkPort → LinkPort) (s : State) : (onLink l f s).starvation = s.starvation := rfl
@[simp] theorem onLink_capture (l : Link) (f : LinkPort → LinkPort) (s : State) : (onLink l f s).capture = s.capture := rfl
@[simp] theorem onLink_notices (l : Link) (f : LinkPort → LinkPort) (s : State) : (onLink l f s).notices = s.notices := rfl
@[simp] theorem onLink_choices (l : Link) (f : LinkPort → LinkPort) (s : State) : (onLink l f s).choices = s.choices := rfl
@[simp] theorem onLink_pending (l : Link) (f : LinkPort → LinkPort) (s : State) : (onLink l f s).pending = s.pending := rfl

@[simp] theorem grant_lineTime (l : Link) (s : State) : (grant l s).lineTime = s.lineTime := rfl
@[simp] theorem grant_inReset (l : Link) (s : State) : (grant l s).inReset = s.inReset := rfl
@[simp] theorem grant_resetCause (l : Link) (s : State) : (grant l s).resetCause = s.resetCause := rfl
@[simp] theorem grant_levels (l : Link) (s : State) : (grant l s).levels = s.levels := rfl
@[simp] theorem grant_feed (l : Link) (s : State) : (grant l s).feed = s.feed := rfl
@[simp] theorem grant_carrier (l : Link) (s : State) : (grant l s).carrier = s.carrier := rfl
@[simp] theorem grant_tracking (l : Link) (s : State) : (grant l s).tracking = s.tracking := rfl
@[simp] theorem grant_slots (l : Link) (s : State) : (grant l s).slots = s.slots := rfl
@[simp] theorem grant_orders (l : Link) (s : State) : (grant l s).orders = s.orders := rfl
@[simp] theorem grant_planner (l : Link) (s : State) : (grant l s).planner = s.planner := rfl
@[simp] theorem grant_plan (l : Link) (s : State) : (grant l s).plan = s.plan := rfl
@[simp] theorem grant_marks (l : Link) (s : State) : (grant l s).marks = s.marks := rfl
@[simp] theorem grant_head (l : Link) (s : State) : (grant l s).head = s.head := rfl
@[simp] theorem grant_run (l : Link) (s : State) : (grant l s).run = s.run := rfl
@[simp] theorem grant_map (l : Link) (s : State) : (grant l s).map = s.map := rfl
@[simp] theorem grant_exitUnit (l : Link) (s : State) : (grant l s).exitUnit = s.exitUnit := rfl
@[simp] theorem grant_heat (l : Link) (s : State) : (grant l s).heat = s.heat := rfl
@[simp] theorem grant_unwind (l : Link) (s : State) : (grant l s).unwind = s.unwind := rfl
@[simp] theorem grant_starvation (l : Link) (s : State) : (grant l s).starvation = s.starvation := rfl
@[simp] theorem grant_capture (l : Link) (s : State) : (grant l s).capture = s.capture := rfl
@[simp] theorem grant_notices (l : Link) (s : State) : (grant l s).notices = s.notices := rfl
@[simp] theorem grant_choices (l : Link) (s : State) : (grant l s).choices = s.choices := rfl
@[simp] theorem grant_pending (l : Link) (s : State) : (grant l s).pending = s.pending := rfl

@[simp] theorem respond_lineTime (l : Link) (code : Byte) (r : ResultCode) (d : List Byte) (s : State) : (respond l code r d s).lineTime = s.lineTime := rfl
@[simp] theorem respond_inReset (l : Link) (code : Byte) (r : ResultCode) (d : List Byte) (s : State) : (respond l code r d s).inReset = s.inReset := rfl
@[simp] theorem respond_resetCause (l : Link) (code : Byte) (r : ResultCode) (d : List Byte) (s : State) : (respond l code r d s).resetCause = s.resetCause := rfl
@[simp] theorem respond_levels (l : Link) (code : Byte) (r : ResultCode) (d : List Byte) (s : State) : (respond l code r d s).levels = s.levels := rfl
@[simp] theorem respond_feed (l : Link) (code : Byte) (r : ResultCode) (d : List Byte) (s : State) : (respond l code r d s).feed = s.feed := rfl
@[simp] theorem respond_carrier (l : Link) (code : Byte) (r : ResultCode) (d : List Byte) (s : State) : (respond l code r d s).carrier = s.carrier := rfl
@[simp] theorem respond_tracking (l : Link) (code : Byte) (r : ResultCode) (d : List Byte) (s : State) : (respond l code r d s).tracking = s.tracking := rfl
@[simp] theorem respond_slots (l : Link) (code : Byte) (r : ResultCode) (d : List Byte) (s : State) : (respond l code r d s).slots = s.slots := rfl
@[simp] theorem respond_orders (l : Link) (code : Byte) (r : ResultCode) (d : List Byte) (s : State) : (respond l code r d s).orders = s.orders := rfl
@[simp] theorem respond_planner (l : Link) (code : Byte) (r : ResultCode) (d : List Byte) (s : State) : (respond l code r d s).planner = s.planner := rfl
@[simp] theorem respond_plan (l : Link) (code : Byte) (r : ResultCode) (d : List Byte) (s : State) : (respond l code r d s).plan = s.plan := rfl
@[simp] theorem respond_marks (l : Link) (code : Byte) (r : ResultCode) (d : List Byte) (s : State) : (respond l code r d s).marks = s.marks := rfl
@[simp] theorem respond_head (l : Link) (code : Byte) (r : ResultCode) (d : List Byte) (s : State) : (respond l code r d s).head = s.head := rfl
@[simp] theorem respond_run (l : Link) (code : Byte) (r : ResultCode) (d : List Byte) (s : State) : (respond l code r d s).run = s.run := rfl
@[simp] theorem respond_map (l : Link) (code : Byte) (r : ResultCode) (d : List Byte) (s : State) : (respond l code r d s).map = s.map := rfl
@[simp] theorem respond_exitUnit (l : Link) (code : Byte) (r : ResultCode) (d : List Byte) (s : State) : (respond l code r d s).exitUnit = s.exitUnit := rfl
@[simp] theorem respond_heat (l : Link) (code : Byte) (r : ResultCode) (d : List Byte) (s : State) : (respond l code r d s).heat = s.heat := rfl
@[simp] theorem respond_unwind (l : Link) (code : Byte) (r : ResultCode) (d : List Byte) (s : State) : (respond l code r d s).unwind = s.unwind := rfl
@[simp] theorem respond_starvation (l : Link) (code : Byte) (r : ResultCode) (d : List Byte) (s : State) : (respond l code r d s).starvation = s.starvation := rfl
@[simp] theorem respond_capture (l : Link) (code : Byte) (r : ResultCode) (d : List Byte) (s : State) : (respond l code r d s).capture = s.capture := rfl
@[simp] theorem respond_notices (l : Link) (code : Byte) (r : ResultCode) (d : List Byte) (s : State) : (respond l code r d s).notices = s.notices := rfl
@[simp] theorem respond_choices (l : Link) (code : Byte) (r : ResultCode) (d : List Byte) (s : State) : (respond l code r d s).choices = s.choices := rfl
@[simp] theorem respond_pending (l : Link) (code : Byte) (r : ResultCode) (d : List Byte) (s : State) : (respond l code r d s).pending = s.pending := rfl

@[simp] theorem setSlot_lineTime (i : Fin 16) (sl : Slot) (s : State) : (setSlot i sl s).lineTime = s.lineTime := rfl
@[simp] theorem setSlot_inReset (i : Fin 16) (sl : Slot) (s : State) : (setSlot i sl s).inReset = s.inReset := rfl
@[simp] theorem setSlot_resetCause (i : Fin 16) (sl : Slot) (s : State) : (setSlot i sl s).resetCause = s.resetCause := rfl
@[simp] theorem setSlot_levels (i : Fin 16) (sl : Slot) (s : State) : (setSlot i sl s).levels = s.levels := rfl
@[simp] theorem setSlot_feed (i : Fin 16) (sl : Slot) (s : State) : (setSlot i sl s).feed = s.feed := rfl
@[simp] theorem setSlot_carrier (i : Fin 16) (sl : Slot) (s : State) : (setSlot i sl s).carrier = s.carrier := rfl
@[simp] theorem setSlot_tracking (i : Fin 16) (sl : Slot) (s : State) : (setSlot i sl s).tracking = s.tracking := rfl
@[simp] theorem setSlot_orders (i : Fin 16) (sl : Slot) (s : State) : (setSlot i sl s).orders = s.orders := rfl
@[simp] theorem setSlot_planner (i : Fin 16) (sl : Slot) (s : State) : (setSlot i sl s).planner = s.planner := rfl
@[simp] theorem setSlot_plan (i : Fin 16) (sl : Slot) (s : State) : (setSlot i sl s).plan = s.plan := rfl
@[simp] theorem setSlot_marks (i : Fin 16) (sl : Slot) (s : State) : (setSlot i sl s).marks = s.marks := rfl
@[simp] theorem setSlot_head (i : Fin 16) (sl : Slot) (s : State) : (setSlot i sl s).head = s.head := rfl
@[simp] theorem setSlot_run (i : Fin 16) (sl : Slot) (s : State) : (setSlot i sl s).run = s.run := rfl
@[simp] theorem setSlot_map (i : Fin 16) (sl : Slot) (s : State) : (setSlot i sl s).map = s.map := rfl
@[simp] theorem setSlot_exitUnit (i : Fin 16) (sl : Slot) (s : State) : (setSlot i sl s).exitUnit = s.exitUnit := rfl
@[simp] theorem setSlot_heat (i : Fin 16) (sl : Slot) (s : State) : (setSlot i sl s).heat = s.heat := rfl
@[simp] theorem setSlot_unwind (i : Fin 16) (sl : Slot) (s : State) : (setSlot i sl s).unwind = s.unwind := rfl
@[simp] theorem setSlot_links (i : Fin 16) (sl : Slot) (s : State) : (setSlot i sl s).links = s.links := rfl
@[simp] theorem setSlot_starvation (i : Fin 16) (sl : Slot) (s : State) : (setSlot i sl s).starvation = s.starvation := rfl
@[simp] theorem setSlot_capture (i : Fin 16) (sl : Slot) (s : State) : (setSlot i sl s).capture = s.capture := rfl
@[simp] theorem setSlot_notices (i : Fin 16) (sl : Slot) (s : State) : (setSlot i sl s).notices = s.notices := rfl
@[simp] theorem setSlot_choices (i : Fin 16) (sl : Slot) (s : State) : (setSlot i sl s).choices = s.choices := rfl
@[simp] theorem setSlot_pending (i : Fin 16) (sl : Slot) (s : State) : (setSlot i sl s).pending = s.pending := rfl

@[simp] theorem addRef_lineTime (i : Fin 16) (s : State) : (addRef i s).lineTime = s.lineTime := rfl
@[simp] theorem addRef_inReset (i : Fin 16) (s : State) : (addRef i s).inReset = s.inReset := rfl
@[simp] theorem addRef_resetCause (i : Fin 16) (s : State) : (addRef i s).resetCause = s.resetCause := rfl
@[simp] theorem addRef_levels (i : Fin 16) (s : State) : (addRef i s).levels = s.levels := rfl
@[simp] theorem addRef_feed (i : Fin 16) (s : State) : (addRef i s).feed = s.feed := rfl
@[simp] theorem addRef_carrier (i : Fin 16) (s : State) : (addRef i s).carrier = s.carrier := rfl
@[simp] theorem addRef_tracking (i : Fin 16) (s : State) : (addRef i s).tracking = s.tracking := rfl
@[simp] theorem addRef_orders (i : Fin 16) (s : State) : (addRef i s).orders = s.orders := rfl
@[simp] theorem addRef_planner (i : Fin 16) (s : State) : (addRef i s).planner = s.planner := rfl
@[simp] theorem addRef_plan (i : Fin 16) (s : State) : (addRef i s).plan = s.plan := rfl
@[simp] theorem addRef_marks (i : Fin 16) (s : State) : (addRef i s).marks = s.marks := rfl
@[simp] theorem addRef_head (i : Fin 16) (s : State) : (addRef i s).head = s.head := rfl
@[simp] theorem addRef_run (i : Fin 16) (s : State) : (addRef i s).run = s.run := rfl
@[simp] theorem addRef_map (i : Fin 16) (s : State) : (addRef i s).map = s.map := rfl
@[simp] theorem addRef_exitUnit (i : Fin 16) (s : State) : (addRef i s).exitUnit = s.exitUnit := rfl
@[simp] theorem addRef_heat (i : Fin 16) (s : State) : (addRef i s).heat = s.heat := rfl
@[simp] theorem addRef_unwind (i : Fin 16) (s : State) : (addRef i s).unwind = s.unwind := rfl
@[simp] theorem addRef_links (i : Fin 16) (s : State) : (addRef i s).links = s.links := rfl
@[simp] theorem addRef_starvation (i : Fin 16) (s : State) : (addRef i s).starvation = s.starvation := rfl
@[simp] theorem addRef_capture (i : Fin 16) (s : State) : (addRef i s).capture = s.capture := rfl
@[simp] theorem addRef_notices (i : Fin 16) (s : State) : (addRef i s).notices = s.notices := rfl
@[simp] theorem addRef_choices (i : Fin 16) (s : State) : (addRef i s).choices = s.choices := rfl
@[simp] theorem addRef_pending (i : Fin 16) (s : State) : (addRef i s).pending = s.pending := rfl

@[simp] theorem onSegment_lineTime (n : Serial) (f : Segment → Segment) (s : State) : (onSegment n f s).lineTime = s.lineTime := rfl
@[simp] theorem onSegment_inReset (n : Serial) (f : Segment → Segment) (s : State) : (onSegment n f s).inReset = s.inReset := rfl
@[simp] theorem onSegment_resetCause (n : Serial) (f : Segment → Segment) (s : State) : (onSegment n f s).resetCause = s.resetCause := rfl
@[simp] theorem onSegment_levels (n : Serial) (f : Segment → Segment) (s : State) : (onSegment n f s).levels = s.levels := rfl
@[simp] theorem onSegment_feed (n : Serial) (f : Segment → Segment) (s : State) : (onSegment n f s).feed = s.feed := rfl
@[simp] theorem onSegment_carrier (n : Serial) (f : Segment → Segment) (s : State) : (onSegment n f s).carrier = s.carrier := rfl
@[simp] theorem onSegment_tracking (n : Serial) (f : Segment → Segment) (s : State) : (onSegment n f s).tracking = s.tracking := rfl
@[simp] theorem onSegment_slots (n : Serial) (f : Segment → Segment) (s : State) : (onSegment n f s).slots = s.slots := rfl
@[simp] theorem onSegment_orders (n : Serial) (f : Segment → Segment) (s : State) : (onSegment n f s).orders = s.orders := rfl
@[simp] theorem onSegment_planner (n : Serial) (f : Segment → Segment) (s : State) : (onSegment n f s).planner = s.planner := rfl
@[simp] theorem onSegment_plan (n : Serial) (f : Segment → Segment) (s : State) : (onSegment n f s).plan = s.plan := rfl
@[simp] theorem onSegment_marks (n : Serial) (f : Segment → Segment) (s : State) : (onSegment n f s).marks = s.marks := rfl
@[simp] theorem onSegment_head (n : Serial) (f : Segment → Segment) (s : State) : (onSegment n f s).head = s.head := rfl
@[simp] theorem onSegment_run (n : Serial) (f : Segment → Segment) (s : State) : (onSegment n f s).run = s.run := rfl
@[simp] theorem onSegment_exitUnit (n : Serial) (f : Segment → Segment) (s : State) : (onSegment n f s).exitUnit = s.exitUnit := rfl
@[simp] theorem onSegment_heat (n : Serial) (f : Segment → Segment) (s : State) : (onSegment n f s).heat = s.heat := rfl
@[simp] theorem onSegment_unwind (n : Serial) (f : Segment → Segment) (s : State) : (onSegment n f s).unwind = s.unwind := rfl
@[simp] theorem onSegment_links (n : Serial) (f : Segment → Segment) (s : State) : (onSegment n f s).links = s.links := rfl
@[simp] theorem onSegment_starvation (n : Serial) (f : Segment → Segment) (s : State) : (onSegment n f s).starvation = s.starvation := rfl
@[simp] theorem onSegment_capture (n : Serial) (f : Segment → Segment) (s : State) : (onSegment n f s).capture = s.capture := rfl
@[simp] theorem onSegment_notices (n : Serial) (f : Segment → Segment) (s : State) : (onSegment n f s).notices = s.notices := rfl
@[simp] theorem onSegment_choices (n : Serial) (f : Segment → Segment) (s : State) : (onSegment n f s).choices = s.choices := rfl
@[simp] theorem onSegment_pending (n : Serial) (f : Segment → Segment) (s : State) : (onSegment n f s).pending = s.pending := rfl

@[simp] theorem onZone_lineTime (z : ZoneId) (f : Zone → Zone) (s : State) : (onZone z f s).lineTime = s.lineTime := rfl
@[simp] theorem onZone_inReset (z : ZoneId) (f : Zone → Zone) (s : State) : (onZone z f s).inReset = s.inReset := rfl
@[simp] theorem onZone_resetCause (z : ZoneId) (f : Zone → Zone) (s : State) : (onZone z f s).resetCause = s.resetCause := rfl
@[simp] theorem onZone_levels (z : ZoneId) (f : Zone → Zone) (s : State) : (onZone z f s).levels = s.levels := rfl
@[simp] theorem onZone_feed (z : ZoneId) (f : Zone → Zone) (s : State) : (onZone z f s).feed = s.feed := rfl
@[simp] theorem onZone_carrier (z : ZoneId) (f : Zone → Zone) (s : State) : (onZone z f s).carrier = s.carrier := rfl
@[simp] theorem onZone_tracking (z : ZoneId) (f : Zone → Zone) (s : State) : (onZone z f s).tracking = s.tracking := rfl
@[simp] theorem onZone_slots (z : ZoneId) (f : Zone → Zone) (s : State) : (onZone z f s).slots = s.slots := rfl
@[simp] theorem onZone_orders (z : ZoneId) (f : Zone → Zone) (s : State) : (onZone z f s).orders = s.orders := rfl
@[simp] theorem onZone_planner (z : ZoneId) (f : Zone → Zone) (s : State) : (onZone z f s).planner = s.planner := rfl
@[simp] theorem onZone_plan (z : ZoneId) (f : Zone → Zone) (s : State) : (onZone z f s).plan = s.plan := rfl
@[simp] theorem onZone_marks (z : ZoneId) (f : Zone → Zone) (s : State) : (onZone z f s).marks = s.marks := rfl
@[simp] theorem onZone_head (z : ZoneId) (f : Zone → Zone) (s : State) : (onZone z f s).head = s.head := rfl
@[simp] theorem onZone_run (z : ZoneId) (f : Zone → Zone) (s : State) : (onZone z f s).run = s.run := rfl
@[simp] theorem onZone_map (z : ZoneId) (f : Zone → Zone) (s : State) : (onZone z f s).map = s.map := rfl
@[simp] theorem onZone_exitUnit (z : ZoneId) (f : Zone → Zone) (s : State) : (onZone z f s).exitUnit = s.exitUnit := rfl
@[simp] theorem onZone_unwind (z : ZoneId) (f : Zone → Zone) (s : State) : (onZone z f s).unwind = s.unwind := rfl
@[simp] theorem onZone_links (z : ZoneId) (f : Zone → Zone) (s : State) : (onZone z f s).links = s.links := rfl
@[simp] theorem onZone_starvation (z : ZoneId) (f : Zone → Zone) (s : State) : (onZone z f s).starvation = s.starvation := rfl
@[simp] theorem onZone_capture (z : ZoneId) (f : Zone → Zone) (s : State) : (onZone z f s).capture = s.capture := rfl
@[simp] theorem onZone_notices (z : ZoneId) (f : Zone → Zone) (s : State) : (onZone z f s).notices = s.notices := rfl
@[simp] theorem onZone_choices (z : ZoneId) (f : Zone → Zone) (s : State) : (onZone z f s).choices = s.choices := rfl
@[simp] theorem onZone_pending (z : ZoneId) (f : Zone → Zone) (s : State) : (onZone z f s).pending = s.pending := rfl

@[simp] theorem onProbe_lineTime (p : ZoneId) (f : Probe → Probe) (s : State) : (onProbe p f s).lineTime = s.lineTime := rfl
@[simp] theorem onProbe_inReset (p : ZoneId) (f : Probe → Probe) (s : State) : (onProbe p f s).inReset = s.inReset := rfl
@[simp] theorem onProbe_resetCause (p : ZoneId) (f : Probe → Probe) (s : State) : (onProbe p f s).resetCause = s.resetCause := rfl
@[simp] theorem onProbe_levels (p : ZoneId) (f : Probe → Probe) (s : State) : (onProbe p f s).levels = s.levels := rfl
@[simp] theorem onProbe_feed (p : ZoneId) (f : Probe → Probe) (s : State) : (onProbe p f s).feed = s.feed := rfl
@[simp] theorem onProbe_carrier (p : ZoneId) (f : Probe → Probe) (s : State) : (onProbe p f s).carrier = s.carrier := rfl
@[simp] theorem onProbe_tracking (p : ZoneId) (f : Probe → Probe) (s : State) : (onProbe p f s).tracking = s.tracking := rfl
@[simp] theorem onProbe_slots (p : ZoneId) (f : Probe → Probe) (s : State) : (onProbe p f s).slots = s.slots := rfl
@[simp] theorem onProbe_orders (p : ZoneId) (f : Probe → Probe) (s : State) : (onProbe p f s).orders = s.orders := rfl
@[simp] theorem onProbe_planner (p : ZoneId) (f : Probe → Probe) (s : State) : (onProbe p f s).planner = s.planner := rfl
@[simp] theorem onProbe_plan (p : ZoneId) (f : Probe → Probe) (s : State) : (onProbe p f s).plan = s.plan := rfl
@[simp] theorem onProbe_marks (p : ZoneId) (f : Probe → Probe) (s : State) : (onProbe p f s).marks = s.marks := rfl
@[simp] theorem onProbe_head (p : ZoneId) (f : Probe → Probe) (s : State) : (onProbe p f s).head = s.head := rfl
@[simp] theorem onProbe_run (p : ZoneId) (f : Probe → Probe) (s : State) : (onProbe p f s).run = s.run := rfl
@[simp] theorem onProbe_map (p : ZoneId) (f : Probe → Probe) (s : State) : (onProbe p f s).map = s.map := rfl
@[simp] theorem onProbe_exitUnit (p : ZoneId) (f : Probe → Probe) (s : State) : (onProbe p f s).exitUnit = s.exitUnit := rfl
@[simp] theorem onProbe_unwind (p : ZoneId) (f : Probe → Probe) (s : State) : (onProbe p f s).unwind = s.unwind := rfl
@[simp] theorem onProbe_links (p : ZoneId) (f : Probe → Probe) (s : State) : (onProbe p f s).links = s.links := rfl
@[simp] theorem onProbe_starvation (p : ZoneId) (f : Probe → Probe) (s : State) : (onProbe p f s).starvation = s.starvation := rfl
@[simp] theorem onProbe_capture (p : ZoneId) (f : Probe → Probe) (s : State) : (onProbe p f s).capture = s.capture := rfl
@[simp] theorem onProbe_notices (p : ZoneId) (f : Probe → Probe) (s : State) : (onProbe p f s).notices = s.notices := rfl
@[simp] theorem onProbe_choices (p : ZoneId) (f : Probe → Probe) (s : State) : (onProbe p f s).choices = s.choices := rfl
@[simp] theorem onProbe_pending (p : ZoneId) (f : Probe → Probe) (s : State) : (onProbe p f s).pending = s.pending := rfl

@[simp] theorem setRoll_lineTime (i : Side) (r : Option RollRecord) (s : State) : (setRoll i r s).lineTime = s.lineTime := rfl
@[simp] theorem setRoll_inReset (i : Side) (r : Option RollRecord) (s : State) : (setRoll i r s).inReset = s.inReset := rfl
@[simp] theorem setRoll_resetCause (i : Side) (r : Option RollRecord) (s : State) : (setRoll i r s).resetCause = s.resetCause := rfl
@[simp] theorem setRoll_levels (i : Side) (r : Option RollRecord) (s : State) : (setRoll i r s).levels = s.levels := rfl
@[simp] theorem setRoll_feed (i : Side) (r : Option RollRecord) (s : State) : (setRoll i r s).feed = s.feed := rfl
@[simp] theorem setRoll_carrier (i : Side) (r : Option RollRecord) (s : State) : (setRoll i r s).carrier = s.carrier := rfl
@[simp] theorem setRoll_tracking (i : Side) (r : Option RollRecord) (s : State) : (setRoll i r s).tracking = s.tracking := rfl
@[simp] theorem setRoll_slots (i : Side) (r : Option RollRecord) (s : State) : (setRoll i r s).slots = s.slots := rfl
@[simp] theorem setRoll_orders (i : Side) (r : Option RollRecord) (s : State) : (setRoll i r s).orders = s.orders := rfl
@[simp] theorem setRoll_planner (i : Side) (r : Option RollRecord) (s : State) : (setRoll i r s).planner = s.planner := rfl
@[simp] theorem setRoll_plan (i : Side) (r : Option RollRecord) (s : State) : (setRoll i r s).plan = s.plan := rfl
@[simp] theorem setRoll_marks (i : Side) (r : Option RollRecord) (s : State) : (setRoll i r s).marks = s.marks := rfl
@[simp] theorem setRoll_head (i : Side) (r : Option RollRecord) (s : State) : (setRoll i r s).head = s.head := rfl
@[simp] theorem setRoll_run (i : Side) (r : Option RollRecord) (s : State) : (setRoll i r s).run = s.run := rfl
@[simp] theorem setRoll_map (i : Side) (r : Option RollRecord) (s : State) : (setRoll i r s).map = s.map := rfl
@[simp] theorem setRoll_exitUnit (i : Side) (r : Option RollRecord) (s : State) : (setRoll i r s).exitUnit = s.exitUnit := rfl
@[simp] theorem setRoll_heat (i : Side) (r : Option RollRecord) (s : State) : (setRoll i r s).heat = s.heat := rfl
@[simp] theorem setRoll_links (i : Side) (r : Option RollRecord) (s : State) : (setRoll i r s).links = s.links := rfl
@[simp] theorem setRoll_starvation (i : Side) (r : Option RollRecord) (s : State) : (setRoll i r s).starvation = s.starvation := rfl
@[simp] theorem setRoll_capture (i : Side) (r : Option RollRecord) (s : State) : (setRoll i r s).capture = s.capture := rfl
@[simp] theorem setRoll_notices (i : Side) (r : Option RollRecord) (s : State) : (setRoll i r s).notices = s.notices := rfl
@[simp] theorem setRoll_choices (i : Side) (r : Option RollRecord) (s : State) : (setRoll i r s).choices = s.choices := rfl
@[simp] theorem setRoll_pending (i : Side) (r : Option RollRecord) (s : State) : (setRoll i r s).pending = s.pending := rfl

@[simp] theorem setPlanning_lineTime (p : Option PlanningState) (s : State) : (setPlanning p s).lineTime = s.lineTime := rfl
@[simp] theorem setPlanning_inReset (p : Option PlanningState) (s : State) : (setPlanning p s).inReset = s.inReset := rfl
@[simp] theorem setPlanning_resetCause (p : Option PlanningState) (s : State) : (setPlanning p s).resetCause = s.resetCause := rfl
@[simp] theorem setPlanning_levels (p : Option PlanningState) (s : State) : (setPlanning p s).levels = s.levels := rfl
@[simp] theorem setPlanning_feed (p : Option PlanningState) (s : State) : (setPlanning p s).feed = s.feed := rfl
@[simp] theorem setPlanning_carrier (p : Option PlanningState) (s : State) : (setPlanning p s).carrier = s.carrier := rfl
@[simp] theorem setPlanning_tracking (p : Option PlanningState) (s : State) : (setPlanning p s).tracking = s.tracking := rfl
@[simp] theorem setPlanning_slots (p : Option PlanningState) (s : State) : (setPlanning p s).slots = s.slots := rfl
@[simp] theorem setPlanning_orders (p : Option PlanningState) (s : State) : (setPlanning p s).orders = s.orders := rfl
@[simp] theorem setPlanning_plan (p : Option PlanningState) (s : State) : (setPlanning p s).plan = s.plan := rfl
@[simp] theorem setPlanning_marks (p : Option PlanningState) (s : State) : (setPlanning p s).marks = s.marks := rfl
@[simp] theorem setPlanning_head (p : Option PlanningState) (s : State) : (setPlanning p s).head = s.head := rfl
@[simp] theorem setPlanning_run (p : Option PlanningState) (s : State) : (setPlanning p s).run = s.run := rfl
@[simp] theorem setPlanning_map (p : Option PlanningState) (s : State) : (setPlanning p s).map = s.map := rfl
@[simp] theorem setPlanning_exitUnit (p : Option PlanningState) (s : State) : (setPlanning p s).exitUnit = s.exitUnit := rfl
@[simp] theorem setPlanning_heat (p : Option PlanningState) (s : State) : (setPlanning p s).heat = s.heat := rfl
@[simp] theorem setPlanning_unwind (p : Option PlanningState) (s : State) : (setPlanning p s).unwind = s.unwind := rfl
@[simp] theorem setPlanning_links (p : Option PlanningState) (s : State) : (setPlanning p s).links = s.links := rfl
@[simp] theorem setPlanning_starvation (p : Option PlanningState) (s : State) : (setPlanning p s).starvation = s.starvation := rfl
@[simp] theorem setPlanning_capture (p : Option PlanningState) (s : State) : (setPlanning p s).capture = s.capture := rfl
@[simp] theorem setPlanning_notices (p : Option PlanningState) (s : State) : (setPlanning p s).notices = s.notices := rfl
@[simp] theorem setPlanning_choices (p : Option PlanningState) (s : State) : (setPlanning p s).choices = s.choices := rfl
@[simp] theorem setPlanning_pending (p : Option PlanningState) (s : State) : (setPlanning p s).pending = s.pending := rfl

@[simp] theorem refreshCeiling_lineTime (s : State) : (refreshCeiling s).lineTime = s.lineTime := rfl
@[simp] theorem refreshCeiling_inReset (s : State) : (refreshCeiling s).inReset = s.inReset := rfl
@[simp] theorem refreshCeiling_resetCause (s : State) : (refreshCeiling s).resetCause = s.resetCause := rfl
@[simp] theorem refreshCeiling_levels (s : State) : (refreshCeiling s).levels = s.levels := rfl
@[simp] theorem refreshCeiling_feed (s : State) : (refreshCeiling s).feed = s.feed := rfl
@[simp] theorem refreshCeiling_carrier (s : State) : (refreshCeiling s).carrier = s.carrier := rfl
@[simp] theorem refreshCeiling_tracking (s : State) : (refreshCeiling s).tracking = s.tracking := rfl
@[simp] theorem refreshCeiling_slots (s : State) : (refreshCeiling s).slots = s.slots := rfl
@[simp] theorem refreshCeiling_orders (s : State) : (refreshCeiling s).orders = s.orders := rfl
@[simp] theorem refreshCeiling_planner (s : State) : (refreshCeiling s).planner = s.planner := rfl
@[simp] theorem refreshCeiling_plan (s : State) : (refreshCeiling s).plan = s.plan := rfl
@[simp] theorem refreshCeiling_marks (s : State) : (refreshCeiling s).marks = s.marks := rfl
@[simp] theorem refreshCeiling_run (s : State) : (refreshCeiling s).run = s.run := rfl
@[simp] theorem refreshCeiling_map (s : State) : (refreshCeiling s).map = s.map := rfl
@[simp] theorem refreshCeiling_exitUnit (s : State) : (refreshCeiling s).exitUnit = s.exitUnit := rfl
@[simp] theorem refreshCeiling_heat (s : State) : (refreshCeiling s).heat = s.heat := rfl
@[simp] theorem refreshCeiling_unwind (s : State) : (refreshCeiling s).unwind = s.unwind := rfl
@[simp] theorem refreshCeiling_links (s : State) : (refreshCeiling s).links = s.links := rfl
@[simp] theorem refreshCeiling_starvation (s : State) : (refreshCeiling s).starvation = s.starvation := rfl
@[simp] theorem refreshCeiling_capture (s : State) : (refreshCeiling s).capture = s.capture := rfl
@[simp] theorem refreshCeiling_notices (s : State) : (refreshCeiling s).notices = s.notices := rfl
@[simp] theorem refreshCeiling_choices (s : State) : (refreshCeiling s).choices = s.choices := rfl
@[simp] theorem refreshCeiling_pending (s : State) : (refreshCeiling s).pending = s.pending := rfl

end Sys2Proof.Machine
end

