-- ==== Sys2Proof/Laws/Frames.lean ====
section
/-!
SUPPORT. What each shared operation of the model leaves alone: one lemma for each, a conjunction that simp takes apart into
its fields.
-/

namespace Sys2Proof.Machine

@[simp] theorem settleClamp_frame (s : State) :
    (settleClamp s).lineTime = s.lineTime ∧ (settleClamp s).inReset = s.inReset ∧
    (settleClamp s).resetCause = s.resetCause ∧ (settleClamp s).levels = s.levels ∧ (settleClamp s).feed = s.feed ∧
    (settleClamp s).carrier = s.carrier ∧ (settleClamp s).tracking = s.tracking ∧ (settleClamp s).slots = s.slots ∧
    (settleClamp s).orders = s.orders ∧ (settleClamp s).planner = s.planner ∧ (settleClamp s).plan = s.plan ∧
    (settleClamp s).marks = s.marks ∧ (settleClamp s).run = s.run ∧ (settleClamp s).map = s.map ∧
    (settleClamp s).exitUnit = s.exitUnit ∧ (settleClamp s).heat = s.heat ∧ (settleClamp s).unwind = s.unwind ∧
    (settleClamp s).links = s.links ∧ (settleClamp s).starvation = s.starvation ∧
    (settleClamp s).capture = s.capture ∧ (settleClamp s).notices = s.notices ∧ (settleClamp s).choices = s.choices ∧
    (settleClamp s).pending = s.pending := by
  unfold settleClamp
  (repeat' split) <;> simp

@[simp] theorem presentLatch_frame (s : State) :
    (presentLatch s).lineTime = s.lineTime ∧ (presentLatch s).inReset = s.inReset ∧
    (presentLatch s).resetCause = s.resetCause ∧ (presentLatch s).levels = s.levels ∧
    (presentLatch s).feed = s.feed ∧ (presentLatch s).carrier = s.carrier ∧ (presentLatch s).tracking = s.tracking ∧
    (presentLatch s).slots = s.slots ∧ (presentLatch s).orders = s.orders ∧ (presentLatch s).planner = s.planner ∧
    (presentLatch s).plan = s.plan ∧ (presentLatch s).marks = s.marks ∧ (presentLatch s).run = s.run ∧
    (presentLatch s).map = s.map ∧ (presentLatch s).exitUnit = s.exitUnit ∧ (presentLatch s).heat = s.heat ∧
    (presentLatch s).unwind = s.unwind ∧ (presentLatch s).links = s.links ∧
    (presentLatch s).starvation = s.starvation ∧ (presentLatch s).capture = s.capture ∧
    (presentLatch s).notices = s.notices ∧ (presentLatch s).choices = s.choices ∧
    (presentLatch s).pending = s.pending := by
  unfold presentLatch
  (repeat' split) <;> simp

@[simp] theorem refreshHead_frame (s : State) :
    (refreshHead s).lineTime = s.lineTime ∧ (refreshHead s).inReset = s.inReset ∧
    (refreshHead s).resetCause = s.resetCause ∧ (refreshHead s).levels = s.levels ∧ (refreshHead s).feed = s.feed ∧
    (refreshHead s).carrier = s.carrier ∧ (refreshHead s).tracking = s.tracking ∧ (refreshHead s).slots = s.slots ∧
    (refreshHead s).orders = s.orders ∧ (refreshHead s).planner = s.planner ∧ (refreshHead s).plan = s.plan ∧
    (refreshHead s).marks = s.marks ∧ (refreshHead s).run = s.run ∧ (refreshHead s).map = s.map ∧
    (refreshHead s).exitUnit = s.exitUnit ∧ (refreshHead s).heat = s.heat ∧ (refreshHead s).unwind = s.unwind ∧
    (refreshHead s).links = s.links ∧ (refreshHead s).starvation = s.starvation ∧
    (refreshHead s).capture = s.capture ∧ (refreshHead s).notices = s.notices ∧ (refreshHead s).choices = s.choices ∧
    (refreshHead s).pending = s.pending := by
  simp [refreshHead]

@[simp] theorem flagSegment_frame (n : Serial) (f : PanelFlag) (s : State) :
    (flagSegment n f s).lineTime = s.lineTime ∧ (flagSegment n f s).inReset = s.inReset ∧
    (flagSegment n f s).resetCause = s.resetCause ∧ (flagSegment n f s).levels = s.levels ∧
    (flagSegment n f s).feed = s.feed ∧ (flagSegment n f s).carrier = s.carrier ∧
    (flagSegment n f s).tracking = s.tracking ∧ (flagSegment n f s).slots = s.slots ∧
    (flagSegment n f s).orders = s.orders ∧ (flagSegment n f s).planner = s.planner ∧
    (flagSegment n f s).plan = s.plan ∧ (flagSegment n f s).marks = s.marks ∧ (flagSegment n f s).head = s.head ∧
    (flagSegment n f s).run = s.run ∧ (flagSegment n f s).exitUnit = s.exitUnit ∧ (flagSegment n f s).heat = s.heat ∧
    (flagSegment n f s).unwind = s.unwind ∧ (flagSegment n f s).links = s.links ∧
    (flagSegment n f s).starvation = s.starvation ∧ (flagSegment n f s).capture = s.capture ∧
    (flagSegment n f s).notices = s.notices ∧ (flagSegment n f s).choices = s.choices ∧
    (flagSegment n f s).pending = s.pending := by
  simp [flagSegment]

@[simp] theorem flagPanel_frame (n : Serial) (f : PanelFlag) (s : State) :
    (flagPanel n f s).lineTime = s.lineTime ∧ (flagPanel n f s).inReset = s.inReset ∧
    (flagPanel n f s).resetCause = s.resetCause ∧ (flagPanel n f s).levels = s.levels ∧
    (flagPanel n f s).feed = s.feed ∧ (flagPanel n f s).carrier = s.carrier ∧
    (flagPanel n f s).tracking = s.tracking ∧ (flagPanel n f s).slots = s.slots ∧
    (flagPanel n f s).orders = s.orders ∧ (flagPanel n f s).plan = s.plan ∧ (flagPanel n f s).marks = s.marks ∧
    (flagPanel n f s).head = s.head ∧ (flagPanel n f s).run = s.run ∧ (flagPanel n f s).exitUnit = s.exitUnit ∧
    (flagPanel n f s).heat = s.heat ∧ (flagPanel n f s).unwind = s.unwind ∧ (flagPanel n f s).links = s.links ∧
    (flagPanel n f s).starvation = s.starvation ∧ (flagPanel n f s).capture = s.capture ∧
    (flagPanel n f s).notices = s.notices ∧ (flagPanel n f s).choices = s.choices ∧
    (flagPanel n f s).pending = s.pending := by
  unfold flagPanel
  (repeat' split) <;> simp

@[simp] theorem missFold_frame (n : Serial) (s : State) :
    (missFold n s).lineTime = s.lineTime ∧ (missFold n s).inReset = s.inReset ∧
    (missFold n s).resetCause = s.resetCause ∧ (missFold n s).levels = s.levels ∧ (missFold n s).feed = s.feed ∧
    (missFold n s).carrier = s.carrier ∧ (missFold n s).tracking = s.tracking ∧ (missFold n s).slots = s.slots ∧
    (missFold n s).orders = s.orders ∧ (missFold n s).planner = s.planner ∧ (missFold n s).plan = s.plan ∧
    (missFold n s).marks = s.marks ∧ (missFold n s).head = s.head ∧ (missFold n s).run = s.run ∧
    (missFold n s).exitUnit = s.exitUnit ∧ (missFold n s).heat = s.heat ∧ (missFold n s).unwind = s.unwind ∧
    (missFold n s).links = s.links ∧ (missFold n s).starvation = s.starvation ∧ (missFold n s).capture = s.capture ∧
    (missFold n s).notices = s.notices ∧ (missFold n s).choices = s.choices ∧ (missFold n s).pending = s.pending := by
  simp [missFold]

@[simp] theorem recordFault_frame (l : Link) (code : Option Byte) (r : ResultCode) (s : State) :
    (recordFault l code r s).lineTime = s.lineTime ∧ (recordFault l code r s).inReset = s.inReset ∧
    (recordFault l code r s).resetCause = s.resetCause ∧ (recordFault l code r s).levels = s.levels ∧
    (recordFault l code r s).feed = s.feed ∧ (recordFault l code r s).carrier = s.carrier ∧
    (recordFault l code r s).tracking = s.tracking ∧ (recordFault l code r s).slots = s.slots ∧
    (recordFault l code r s).orders = s.orders ∧ (recordFault l code r s).planner = s.planner ∧
    (recordFault l code r s).plan = s.plan ∧ (recordFault l code r s).marks = s.marks ∧
    (recordFault l code r s).head = s.head ∧ (recordFault l code r s).run = s.run ∧
    (recordFault l code r s).map = s.map ∧ (recordFault l code r s).exitUnit = s.exitUnit ∧
    (recordFault l code r s).heat = s.heat ∧ (recordFault l code r s).unwind = s.unwind ∧
    (recordFault l code r s).links = s.links ∧ (recordFault l code r s).starvation = s.starvation ∧
    (recordFault l code r s).choices = s.choices ∧ (recordFault l code r s).pending = s.pending := by
  unfold recordFault
  (repeat' split) <;> simp

@[simp] theorem dropRef_frame (i : Fin 16) (s : State) :
    (dropRef i s).lineTime = s.lineTime ∧ (dropRef i s).inReset = s.inReset ∧
    (dropRef i s).resetCause = s.resetCause ∧ (dropRef i s).levels = s.levels ∧ (dropRef i s).feed = s.feed ∧
    (dropRef i s).carrier = s.carrier ∧ (dropRef i s).tracking = s.tracking ∧ (dropRef i s).orders = s.orders ∧
    (dropRef i s).planner = s.planner ∧ (dropRef i s).plan = s.plan ∧ (dropRef i s).marks = s.marks ∧
    (dropRef i s).head = s.head ∧ (dropRef i s).run = s.run ∧ (dropRef i s).map = s.map ∧
    (dropRef i s).exitUnit = s.exitUnit ∧ (dropRef i s).heat = s.heat ∧ (dropRef i s).unwind = s.unwind ∧
    (dropRef i s).links = s.links ∧ (dropRef i s).starvation = s.starvation ∧ (dropRef i s).capture = s.capture ∧
    (dropRef i s).choices = s.choices ∧ (dropRef i s).pending = s.pending := by
  unfold dropRef
  (repeat' split) <;> simp

@[simp] theorem missPending_frame (s : State) :
    (missPending s).lineTime = s.lineTime ∧ (missPending s).inReset = s.inReset ∧
    (missPending s).resetCause = s.resetCause ∧ (missPending s).levels = s.levels ∧ (missPending s).feed = s.feed ∧
    (missPending s).carrier = s.carrier ∧ (missPending s).tracking = s.tracking ∧ (missPending s).slots = s.slots ∧
    (missPending s).orders = s.orders ∧ (missPending s).planner = s.planner ∧ (missPending s).plan = s.plan ∧
    (missPending s).marks = s.marks ∧ (missPending s).run = s.run ∧ (missPending s).exitUnit = s.exitUnit ∧
    (missPending s).heat = s.heat ∧ (missPending s).unwind = s.unwind ∧ (missPending s).links = s.links ∧
    (missPending s).starvation = s.starvation ∧ (missPending s).capture = s.capture ∧
    (missPending s).notices = s.notices ∧ (missPending s).choices = s.choices ∧
    (missPending s).pending = s.pending := by
  unfold missPending
  (repeat' split) <;> simp

@[simp] theorem abortFold_frame (s : State) :
    (abortFold s).lineTime = s.lineTime ∧ (abortFold s).inReset = s.inReset ∧
    (abortFold s).resetCause = s.resetCause ∧ (abortFold s).levels = s.levels ∧ (abortFold s).feed = s.feed ∧
    (abortFold s).carrier = s.carrier ∧ (abortFold s).tracking = s.tracking ∧ (abortFold s).slots = s.slots ∧
    (abortFold s).orders = s.orders ∧ (abortFold s).planner = s.planner ∧ (abortFold s).plan = s.plan ∧
    (abortFold s).marks = s.marks ∧ (abortFold s).head = s.head ∧ (abortFold s).run = s.run ∧
    (abortFold s).exitUnit = s.exitUnit ∧ (abortFold s).heat = s.heat ∧ (abortFold s).unwind = s.unwind ∧
    (abortFold s).links = s.links ∧ (abortFold s).starvation = s.starvation ∧ (abortFold s).capture = s.capture ∧
    (abortFold s).notices = s.notices ∧ (abortFold s).choices = s.choices ∧ (abortFold s).pending = s.pending := by
  unfold abortFold
  (repeat' split) <;> simp

@[simp] theorem haltHead_frame (s : State) :
    (haltHead s).lineTime = s.lineTime ∧ (haltHead s).inReset = s.inReset ∧ (haltHead s).resetCause = s.resetCause ∧
    (haltHead s).levels = s.levels ∧ (haltHead s).feed = s.feed ∧ (haltHead s).carrier = s.carrier ∧
    (haltHead s).tracking = s.tracking ∧ (haltHead s).slots = s.slots ∧ (haltHead s).orders = s.orders ∧
    (haltHead s).planner = s.planner ∧ (haltHead s).plan = s.plan ∧ (haltHead s).marks = s.marks ∧
    (haltHead s).run = s.run ∧ (haltHead s).exitUnit = s.exitUnit ∧ (haltHead s).heat = s.heat ∧
    (haltHead s).unwind = s.unwind ∧ (haltHead s).links = s.links ∧ (haltHead s).starvation = s.starvation ∧
    (haltHead s).capture = s.capture ∧ (haltHead s).notices = s.notices ∧ (haltHead s).choices = s.choices ∧
    (haltHead s).pending = s.pending := by
  unfold haltHead
  (repeat' split) <;> simp

@[simp] theorem safeHead_frame (s : State) :
    (safeHead s).lineTime = s.lineTime ∧ (safeHead s).inReset = s.inReset ∧ (safeHead s).resetCause = s.resetCause ∧
    (safeHead s).levels = s.levels ∧ (safeHead s).feed = s.feed ∧ (safeHead s).carrier = s.carrier ∧
    (safeHead s).tracking = s.tracking ∧ (safeHead s).slots = s.slots ∧ (safeHead s).orders = s.orders ∧
    (safeHead s).planner = s.planner ∧ (safeHead s).plan = s.plan ∧ (safeHead s).marks = s.marks ∧
    (safeHead s).run = s.run ∧ (safeHead s).exitUnit = s.exitUnit ∧ (safeHead s).heat = s.heat ∧
    (safeHead s).unwind = s.unwind ∧ (safeHead s).links = s.links ∧ (safeHead s).starvation = s.starvation ∧
    (safeHead s).capture = s.capture ∧ (safeHead s).notices = s.notices ∧ (safeHead s).choices = s.choices ∧
    (safeHead s).pending = s.pending := by
  unfold safeHead
  (repeat' split) <;> simp

@[simp] theorem safeHeat_frame (s : State) :
    (safeHeat s).lineTime = s.lineTime ∧ (safeHeat s).inReset = s.inReset ∧ (safeHeat s).resetCause = s.resetCause ∧
    (safeHeat s).levels = s.levels ∧ (safeHeat s).feed = s.feed ∧ (safeHeat s).carrier = s.carrier ∧
    (safeHeat s).tracking = s.tracking ∧ (safeHeat s).slots = s.slots ∧ (safeHeat s).orders = s.orders ∧
    (safeHeat s).planner = s.planner ∧ (safeHeat s).plan = s.plan ∧ (safeHeat s).marks = s.marks ∧
    (safeHeat s).head = s.head ∧ (safeHeat s).run = s.run ∧ (safeHeat s).map = s.map ∧
    (safeHeat s).exitUnit = s.exitUnit ∧ (safeHeat s).unwind = s.unwind ∧ (safeHeat s).links = s.links ∧
    (safeHeat s).starvation = s.starvation ∧ (safeHeat s).capture = s.capture ∧ (safeHeat s).notices = s.notices ∧
    (safeHeat s).choices = s.choices ∧ (safeHeat s).pending = s.pending := by
  simp [safeHeat]

@[simp] theorem enterHalted_frame (c : Cause) (s : State) :
    (enterHalted c s).lineTime = s.lineTime ∧ (enterHalted c s).inReset = s.inReset ∧
    (enterHalted c s).resetCause = s.resetCause ∧ (enterHalted c s).levels = s.levels ∧
    (enterHalted c s).carrier = s.carrier ∧ (enterHalted c s).tracking = s.tracking ∧
    (enterHalted c s).slots = s.slots ∧ (enterHalted c s).orders = s.orders ∧ (enterHalted c s).planner = s.planner ∧
    (enterHalted c s).plan = s.plan ∧ (enterHalted c s).marks = s.marks ∧ (enterHalted c s).exitUnit = s.exitUnit ∧
    (enterHalted c s).heat = s.heat ∧ (enterHalted c s).links = s.links ∧
    (enterHalted c s).starvation = s.starvation ∧ (enterHalted c s).capture = s.capture ∧
    (enterHalted c s).notices = s.notices ∧ (enterHalted c s).choices = s.choices ∧
    (enterHalted c s).pending = s.pending := by
  unfold enterHalted
  (repeat' split) <;> simp

@[simp] theorem addCause_frame (c : Cause) (s : State) :
    (addCause c s).lineTime = s.lineTime ∧ (addCause c s).inReset = s.inReset ∧
    (addCause c s).resetCause = s.resetCause ∧ (addCause c s).levels = s.levels ∧
    (addCause c s).carrier = s.carrier ∧ (addCause c s).tracking = s.tracking ∧ (addCause c s).slots = s.slots ∧
    (addCause c s).orders = s.orders ∧ (addCause c s).planner = s.planner ∧ (addCause c s).plan = s.plan ∧
    (addCause c s).marks = s.marks ∧ (addCause c s).exitUnit = s.exitUnit ∧ (addCause c s).heat = s.heat ∧
    (addCause c s).links = s.links ∧ (addCause c s).starvation = s.starvation ∧ (addCause c s).capture = s.capture ∧
    (addCause c s).choices = s.choices ∧ (addCause c s).pending = s.pending := by
  unfold addCause
  (repeat' split) <;> simp

@[simp] theorem safeUnwind_frame (s : State) :
    (safeUnwind s).lineTime = s.lineTime ∧ (safeUnwind s).inReset = s.inReset ∧
    (safeUnwind s).resetCause = s.resetCause ∧ (safeUnwind s).levels = s.levels ∧
    (safeUnwind s).carrier = s.carrier ∧ (safeUnwind s).tracking = s.tracking ∧ (safeUnwind s).slots = s.slots ∧
    (safeUnwind s).orders = s.orders ∧ (safeUnwind s).planner = s.planner ∧ (safeUnwind s).plan = s.plan ∧
    (safeUnwind s).marks = s.marks ∧ (safeUnwind s).exitUnit = s.exitUnit ∧ (safeUnwind s).heat = s.heat ∧
    (safeUnwind s).links = s.links ∧ (safeUnwind s).starvation = s.starvation ∧ (safeUnwind s).capture = s.capture ∧
    (safeUnwind s).choices = s.choices ∧ (safeUnwind s).pending = s.pending := by
  unfold safeUnwind
  (repeat' split) <;> simp

@[simp] theorem addSafe_frame (s : State) :
    (addSafe s).lineTime = s.lineTime ∧ (addSafe s).inReset = s.inReset ∧ (addSafe s).resetCause = s.resetCause ∧
    (addSafe s).levels = s.levels ∧ (addSafe s).carrier = s.carrier ∧ (addSafe s).tracking = s.tracking ∧
    (addSafe s).slots = s.slots ∧ (addSafe s).orders = s.orders ∧ (addSafe s).planner = s.planner ∧
    (addSafe s).plan = s.plan ∧ (addSafe s).marks = s.marks ∧ (addSafe s).exitUnit = s.exitUnit ∧
    (addSafe s).links = s.links ∧ (addSafe s).starvation = s.starvation ∧ (addSafe s).capture = s.capture ∧
    (addSafe s).choices = s.choices ∧ (addSafe s).pending = s.pending := by
  unfold addSafe
  (repeat' split) <;> simp

@[simp] theorem assertSafe_frame (s : State) :
    (assertSafe s).lineTime = s.lineTime ∧ (assertSafe s).inReset = s.inReset ∧
    (assertSafe s).resetCause = s.resetCause ∧ (assertSafe s).levels = s.levels ∧
    (assertSafe s).carrier = s.carrier ∧ (assertSafe s).tracking = s.tracking ∧ (assertSafe s).slots = s.slots ∧
    (assertSafe s).orders = s.orders ∧ (assertSafe s).planner = s.planner ∧ (assertSafe s).plan = s.plan ∧
    (assertSafe s).marks = s.marks ∧ (assertSafe s).exitUnit = s.exitUnit ∧ (assertSafe s).links = s.links ∧
    (assertSafe s).starvation = s.starvation ∧ (assertSafe s).capture = s.capture ∧
    (assertSafe s).choices = s.choices ∧ (assertSafe s).pending = s.pending := by
  simp [assertSafe]

@[simp] theorem enterStopped_frame (s : State) :
    (enterStopped s).lineTime = s.lineTime ∧ (enterStopped s).inReset = s.inReset ∧
    (enterStopped s).resetCause = s.resetCause ∧ (enterStopped s).levels = s.levels ∧
    (enterStopped s).carrier = s.carrier ∧ (enterStopped s).tracking = s.tracking ∧
    (enterStopped s).slots = s.slots ∧ (enterStopped s).orders = s.orders ∧ (enterStopped s).planner = s.planner ∧
    (enterStopped s).plan = s.plan ∧ (enterStopped s).marks = s.marks ∧ (enterStopped s).exitUnit = s.exitUnit ∧
    (enterStopped s).heat = s.heat ∧ (enterStopped s).unwind = s.unwind ∧ (enterStopped s).links = s.links ∧
    (enterStopped s).starvation = s.starvation ∧ (enterStopped s).capture = s.capture ∧
    (enterStopped s).notices = s.notices ∧ (enterStopped s).choices = s.choices ∧
    (enterStopped s).pending = s.pending := by
  simp [enterStopped]

@[simp] theorem reportDrain_frame (s : State) :
    (reportDrain s).lineTime = s.lineTime ∧ (reportDrain s).inReset = s.inReset ∧
    (reportDrain s).resetCause = s.resetCause ∧ (reportDrain s).levels = s.levels ∧
    (reportDrain s).carrier = s.carrier ∧ (reportDrain s).tracking = s.tracking ∧ (reportDrain s).slots = s.slots ∧
    (reportDrain s).orders = s.orders ∧ (reportDrain s).planner = s.planner ∧ (reportDrain s).plan = s.plan ∧
    (reportDrain s).marks = s.marks ∧ (reportDrain s).exitUnit = s.exitUnit ∧ (reportDrain s).heat = s.heat ∧
    (reportDrain s).unwind = s.unwind ∧ (reportDrain s).links = s.links ∧ (reportDrain s).starvation = s.starvation ∧
    (reportDrain s).capture = s.capture ∧ (reportDrain s).choices = s.choices ∧
    (reportDrain s).pending = s.pending := by
  unfold reportDrain
  (repeat' split) <;> simp

@[simp] theorem refuse_frame (l : Link) (code : Byte) (r : ResultCode) (s : State) :
    (refuse l code r s).lineTime = s.lineTime ∧ (refuse l code r s).inReset = s.inReset ∧
    (refuse l code r s).resetCause = s.resetCause ∧ (refuse l code r s).levels = s.levels ∧
    (refuse l code r s).feed = s.feed ∧ (refuse l code r s).carrier = s.carrier ∧
    (refuse l code r s).tracking = s.tracking ∧ (refuse l code r s).slots = s.slots ∧
    (refuse l code r s).orders = s.orders ∧ (refuse l code r s).planner = s.planner ∧
    (refuse l code r s).plan = s.plan ∧ (refuse l code r s).marks = s.marks ∧ (refuse l code r s).head = s.head ∧
    (refuse l code r s).run = s.run ∧ (refuse l code r s).map = s.map ∧ (refuse l code r s).exitUnit = s.exitUnit ∧
    (refuse l code r s).heat = s.heat ∧ (refuse l code r s).unwind = s.unwind ∧
    (refuse l code r s).starvation = s.starvation ∧ (refuse l code r s).choices = s.choices ∧
    (refuse l code r s).pending = s.pending := by
  simp [refuse]

@[simp] theorem freeContext_frame (n : Serial) (s : State) :
    (freeContext n s).lineTime = s.lineTime ∧ (freeContext n s).inReset = s.inReset ∧
    (freeContext n s).resetCause = s.resetCause ∧ (freeContext n s).levels = s.levels ∧
    (freeContext n s).feed = s.feed ∧ (freeContext n s).carrier = s.carrier ∧
    (freeContext n s).tracking = s.tracking ∧ (freeContext n s).orders = s.orders ∧ (freeContext n s).plan = s.plan ∧
    (freeContext n s).marks = s.marks ∧ (freeContext n s).head = s.head ∧ (freeContext n s).run = s.run ∧
    (freeContext n s).map = s.map ∧ (freeContext n s).exitUnit = s.exitUnit ∧ (freeContext n s).heat = s.heat ∧
    (freeContext n s).unwind = s.unwind ∧ (freeContext n s).links = s.links ∧
    (freeContext n s).starvation = s.starvation ∧ (freeContext n s).capture = s.capture ∧
    (freeContext n s).choices = s.choices ∧ (freeContext n s).pending = s.pending := by
  unfold freeContext
  (repeat' split) <;> simp

@[simp] theorem openPanel_frame (n : Serial) (s : State) :
    (openPanel n s).lineTime = s.lineTime ∧ (openPanel n s).inReset = s.inReset ∧
    (openPanel n s).resetCause = s.resetCause ∧ (openPanel n s).levels = s.levels ∧ (openPanel n s).feed = s.feed ∧
    (openPanel n s).carrier = s.carrier ∧ (openPanel n s).tracking = s.tracking ∧ (openPanel n s).orders = s.orders ∧
    (openPanel n s).plan = s.plan ∧ (openPanel n s).marks = s.marks ∧ (openPanel n s).run = s.run ∧
    (openPanel n s).exitUnit = s.exitUnit ∧ (openPanel n s).heat = s.heat ∧ (openPanel n s).unwind = s.unwind ∧
    (openPanel n s).links = s.links ∧ (openPanel n s).starvation = s.starvation ∧
    (openPanel n s).capture = s.capture ∧ (openPanel n s).choices = s.choices ∧
    (openPanel n s).pending = s.pending := by
  unfold openPanel
  (repeat' split) <;> simp

@[simp] theorem fireFold_frame (n : Serial) (p : Nat) (w h : StrokeCode) (s : State) :
    (fireFold n p w h s).lineTime = s.lineTime ∧ (fireFold n p w h s).inReset = s.inReset ∧
    (fireFold n p w h s).resetCause = s.resetCause ∧ (fireFold n p w h s).levels = s.levels ∧
    (fireFold n p w h s).feed = s.feed ∧ (fireFold n p w h s).carrier = s.carrier ∧
    (fireFold n p w h s).tracking = s.tracking ∧ (fireFold n p w h s).slots = s.slots ∧
    (fireFold n p w h s).orders = s.orders ∧ (fireFold n p w h s).planner = s.planner ∧
    (fireFold n p w h s).plan = s.plan ∧ (fireFold n p w h s).marks = s.marks ∧ (fireFold n p w h s).run = s.run ∧
    (fireFold n p w h s).exitUnit = s.exitUnit ∧ (fireFold n p w h s).heat = s.heat ∧
    (fireFold n p w h s).unwind = s.unwind ∧ (fireFold n p w h s).links = s.links ∧
    (fireFold n p w h s).starvation = s.starvation ∧ (fireFold n p w h s).capture = s.capture ∧
    (fireFold n p w h s).choices = s.choices ∧ (fireFold n p w h s).pending = s.pending := by
  simp only [fireFold]
  (repeat' split) <;> simp

@[simp] theorem reachFold_frame (n : Serial) (p : Nat) (w h : StrokeCode) (s : State) :
    (reachFold n p w h s).lineTime = s.lineTime ∧ (reachFold n p w h s).inReset = s.inReset ∧
    (reachFold n p w h s).resetCause = s.resetCause ∧ (reachFold n p w h s).levels = s.levels ∧
    (reachFold n p w h s).carrier = s.carrier ∧ (reachFold n p w h s).tracking = s.tracking ∧
    (reachFold n p w h s).slots = s.slots ∧ (reachFold n p w h s).orders = s.orders ∧
    (reachFold n p w h s).planner = s.planner ∧ (reachFold n p w h s).plan = s.plan ∧
    (reachFold n p w h s).marks = s.marks ∧ (reachFold n p w h s).exitUnit = s.exitUnit ∧
    (reachFold n p w h s).heat = s.heat ∧ (reachFold n p w h s).links = s.links ∧
    (reachFold n p w h s).starvation = s.starvation ∧ (reachFold n p w h s).capture = s.capture ∧
    (reachFold n p w h s).choices = s.choices ∧ (reachFold n p w h s).pending = s.pending := by
  unfold reachFold
  (repeat' split) <;> simp

@[simp] theorem closePanel_frame (n : Serial) (s : State) :
    (closePanel n s).lineTime = s.lineTime ∧ (closePanel n s).inReset = s.inReset ∧
    (closePanel n s).resetCause = s.resetCause ∧ (closePanel n s).levels = s.levels ∧
    (closePanel n s).carrier = s.carrier ∧ (closePanel n s).tracking = s.tracking ∧
    (closePanel n s).slots = s.slots ∧ (closePanel n s).orders = s.orders ∧ (closePanel n s).planner = s.planner ∧
    (closePanel n s).plan = s.plan ∧ (closePanel n s).marks = s.marks ∧ (closePanel n s).exitUnit = s.exitUnit ∧
    (closePanel n s).heat = s.heat ∧ (closePanel n s).unwind = s.unwind ∧ (closePanel n s).links = s.links ∧
    (closePanel n s).starvation = s.starvation ∧ (closePanel n s).capture = s.capture ∧
    (closePanel n s).choices = s.choices ∧ (closePanel n s).pending = s.pending := by
  simp [closePanel]

@[simp] theorem consume_frame (n : Nat) (s : State) :
    (consume n s).lineTime = s.lineTime ∧ (consume n s).inReset = s.inReset ∧
    (consume n s).resetCause = s.resetCause ∧ (consume n s).levels = s.levels ∧ (consume n s).carrier = s.carrier ∧
    (consume n s).tracking = s.tracking ∧ (consume n s).orders = s.orders ∧ (consume n s).marks = s.marks ∧
    (consume n s).exitUnit = s.exitUnit ∧ (consume n s).heat = s.heat ∧ (consume n s).links = s.links ∧
    (consume n s).starvation = s.starvation ∧ (consume n s).capture = s.capture ∧ (consume n s).choices = s.choices ∧
    (consume n s).pending = s.pending := by
  induction n generalizing s with
  | zero => simp [consume]
  | succ n ih => unfold consume; (repeat' split) <;> simp [ih]

@[simp] theorem headEvent_frame (s : State) :
    (headEvent s).lineTime = s.lineTime ∧ (headEvent s).inReset = s.inReset ∧
    (headEvent s).resetCause = s.resetCause ∧ (headEvent s).levels = s.levels ∧ (headEvent s).carrier = s.carrier ∧
    (headEvent s).tracking = s.tracking ∧ (headEvent s).orders = s.orders ∧ (headEvent s).marks = s.marks ∧
    (headEvent s).exitUnit = s.exitUnit ∧ (headEvent s).heat = s.heat ∧ (headEvent s).links = s.links ∧
    (headEvent s).starvation = s.starvation ∧ (headEvent s).capture = s.capture ∧ (headEvent s).choices = s.choices ∧
    (headEvent s).pending = s.pending := by
  simp [headEvent]

@[simp] theorem judgeSpeed_frame (s : State) :
    (judgeSpeed s).lineTime = s.lineTime ∧ (judgeSpeed s).inReset = s.inReset ∧
    (judgeSpeed s).resetCause = s.resetCause ∧ (judgeSpeed s).levels = s.levels ∧ (judgeSpeed s).feed = s.feed ∧
    (judgeSpeed s).carrier = s.carrier ∧ (judgeSpeed s).tracking = s.tracking ∧ (judgeSpeed s).slots = s.slots ∧
    (judgeSpeed s).orders = s.orders ∧ (judgeSpeed s).planner = s.planner ∧ (judgeSpeed s).plan = s.plan ∧
    (judgeSpeed s).marks = s.marks ∧ (judgeSpeed s).run = s.run ∧ (judgeSpeed s).map = s.map ∧
    (judgeSpeed s).exitUnit = s.exitUnit ∧ (judgeSpeed s).heat = s.heat ∧ (judgeSpeed s).unwind = s.unwind ∧
    (judgeSpeed s).links = s.links ∧ (judgeSpeed s).starvation = s.starvation ∧ (judgeSpeed s).capture = s.capture ∧
    (judgeSpeed s).choices = s.choices ∧ (judgeSpeed s).pending = s.pending := by
  simp only [judgeSpeed]
  (repeat' split) <;> simp

@[simp] theorem endClosingGap_frame (s : State) :
    (endClosingGap s).lineTime = s.lineTime ∧ (endClosingGap s).inReset = s.inReset ∧
    (endClosingGap s).resetCause = s.resetCause ∧ (endClosingGap s).levels = s.levels ∧
    (endClosingGap s).carrier = s.carrier ∧ (endClosingGap s).tracking = s.tracking ∧
    (endClosingGap s).slots = s.slots ∧ (endClosingGap s).orders = s.orders ∧ (endClosingGap s).planner = s.planner ∧
    (endClosingGap s).plan = s.plan ∧ (endClosingGap s).marks = s.marks ∧ (endClosingGap s).exitUnit = s.exitUnit ∧
    (endClosingGap s).heat = s.heat ∧ (endClosingGap s).unwind = s.unwind ∧ (endClosingGap s).links = s.links ∧
    (endClosingGap s).starvation = s.starvation ∧ (endClosingGap s).capture = s.capture ∧
    (endClosingGap s).choices = s.choices ∧ (endClosingGap s).pending = s.pending := by
  unfold endClosingGap
  (repeat' split) <;> simp

@[simp] theorem trySearch_frame (s : State) :
    (trySearch s).lineTime = s.lineTime ∧ (trySearch s).inReset = s.inReset ∧
    (trySearch s).resetCause = s.resetCause ∧ (trySearch s).levels = s.levels ∧ (trySearch s).feed = s.feed ∧
    (trySearch s).carrier = s.carrier ∧ (trySearch s).tracking = s.tracking ∧ (trySearch s).slots = s.slots ∧
    (trySearch s).orders = s.orders ∧ (trySearch s).planner = s.planner ∧ (trySearch s).plan = s.plan ∧
    (trySearch s).marks = s.marks ∧ (trySearch s).head = s.head ∧ (trySearch s).run = s.run ∧
    (trySearch s).map = s.map ∧ (trySearch s).exitUnit = s.exitUnit ∧ (trySearch s).heat = s.heat ∧
    (trySearch s).links = s.links ∧ (trySearch s).starvation = s.starvation ∧ (trySearch s).capture = s.capture ∧
    (trySearch s).choices = s.choices ∧ (trySearch s).pending = s.pending := by
  unfold trySearch
  (repeat' split) <;> simp

@[simp] theorem enterDue_frame (r : SpliceReason) (s : State) :
    (enterDue r s).lineTime = s.lineTime ∧ (enterDue r s).inReset = s.inReset ∧
    (enterDue r s).resetCause = s.resetCause ∧ (enterDue r s).levels = s.levels ∧ (enterDue r s).feed = s.feed ∧
    (enterDue r s).carrier = s.carrier ∧ (enterDue r s).tracking = s.tracking ∧ (enterDue r s).slots = s.slots ∧
    (enterDue r s).orders = s.orders ∧ (enterDue r s).planner = s.planner ∧ (enterDue r s).plan = s.plan ∧
    (enterDue r s).marks = s.marks ∧ (enterDue r s).head = s.head ∧ (enterDue r s).run = s.run ∧
    (enterDue r s).map = s.map ∧ (enterDue r s).exitUnit = s.exitUnit ∧ (enterDue r s).heat = s.heat ∧
    (enterDue r s).links = s.links ∧ (enterDue r s).starvation = s.starvation ∧ (enterDue r s).capture = s.capture ∧
    (enterDue r s).choices = s.choices ∧ (enterDue r s).pending = s.pending := by
  simp only [enterDue]
  (repeat' split) <;> simp

@[simp] theorem judgeChange_frame (s : State) :
    (judgeChange s).lineTime = s.lineTime ∧ (judgeChange s).inReset = s.inReset ∧
    (judgeChange s).resetCause = s.resetCause ∧ (judgeChange s).levels = s.levels ∧ (judgeChange s).feed = s.feed ∧
    (judgeChange s).carrier = s.carrier ∧ (judgeChange s).tracking = s.tracking ∧ (judgeChange s).slots = s.slots ∧
    (judgeChange s).orders = s.orders ∧ (judgeChange s).planner = s.planner ∧ (judgeChange s).plan = s.plan ∧
    (judgeChange s).marks = s.marks ∧ (judgeChange s).head = s.head ∧ (judgeChange s).run = s.run ∧
    (judgeChange s).map = s.map ∧ (judgeChange s).exitUnit = s.exitUnit ∧ (judgeChange s).heat = s.heat ∧
    (judgeChange s).links = s.links ∧ (judgeChange s).starvation = s.starvation ∧
    (judgeChange s).capture = s.capture ∧ (judgeChange s).choices = s.choices ∧
    (judgeChange s).pending = s.pending := by
  unfold judgeChange
  (repeat' split) <;> simp

@[simp] theorem judgeEnd_frame (s : State) :
    (judgeEnd s).lineTime = s.lineTime ∧ (judgeEnd s).inReset = s.inReset ∧ (judgeEnd s).resetCause = s.resetCause ∧
    (judgeEnd s).levels = s.levels ∧ (judgeEnd s).carrier = s.carrier ∧ (judgeEnd s).tracking = s.tracking ∧
    (judgeEnd s).slots = s.slots ∧ (judgeEnd s).orders = s.orders ∧ (judgeEnd s).planner = s.planner ∧
    (judgeEnd s).plan = s.plan ∧ (judgeEnd s).marks = s.marks ∧ (judgeEnd s).exitUnit = s.exitUnit ∧
    (judgeEnd s).heat = s.heat ∧ (judgeEnd s).links = s.links ∧ (judgeEnd s).starvation = s.starvation ∧
    (judgeEnd s).capture = s.capture ∧ (judgeEnd s).choices = s.choices ∧ (judgeEnd s).pending = s.pending := by
  unfold judgeEnd
  (repeat' split) <;> simp

@[simp] theorem judgeReserves_frame (s : State) :
    (judgeReserves s).lineTime = s.lineTime ∧ (judgeReserves s).inReset = s.inReset ∧
    (judgeReserves s).resetCause = s.resetCause ∧ (judgeReserves s).levels = s.levels ∧
    (judgeReserves s).carrier = s.carrier ∧ (judgeReserves s).tracking = s.tracking ∧
    (judgeReserves s).slots = s.slots ∧ (judgeReserves s).orders = s.orders ∧ (judgeReserves s).planner = s.planner ∧
    (judgeReserves s).plan = s.plan ∧ (judgeReserves s).marks = s.marks ∧ (judgeReserves s).exitUnit = s.exitUnit ∧
    (judgeReserves s).heat = s.heat ∧ (judgeReserves s).links = s.links ∧
    (judgeReserves s).starvation = s.starvation ∧ (judgeReserves s).capture = s.capture ∧
    (judgeReserves s).choices = s.choices ∧ (judgeReserves s).pending = s.pending := by
  simp [judgeReserves]

@[simp] theorem knifeCheck_frame (s : State) :
    (knifeCheck s).lineTime = s.lineTime ∧ (knifeCheck s).inReset = s.inReset ∧
    (knifeCheck s).resetCause = s.resetCause ∧ (knifeCheck s).levels = s.levels ∧ (knifeCheck s).feed = s.feed ∧
    (knifeCheck s).carrier = s.carrier ∧ (knifeCheck s).tracking = s.tracking ∧ (knifeCheck s).slots = s.slots ∧
    (knifeCheck s).orders = s.orders ∧ (knifeCheck s).planner = s.planner ∧ (knifeCheck s).plan = s.plan ∧
    (knifeCheck s).marks = s.marks ∧ (knifeCheck s).head = s.head ∧ (knifeCheck s).run = s.run ∧
    (knifeCheck s).map = s.map ∧ (knifeCheck s).exitUnit = s.exitUnit ∧ (knifeCheck s).heat = s.heat ∧
    (knifeCheck s).links = s.links ∧ (knifeCheck s).starvation = s.starvation ∧ (knifeCheck s).capture = s.capture ∧
    (knifeCheck s).notices = s.notices ∧ (knifeCheck s).choices = s.choices ∧ (knifeCheck s).pending = s.pending := by
  unfold knifeCheck
  (repeat' split) <;> simp

@[simp] theorem fireSplice_frame (r : SpliceReason) (i : Side) (x f : Nat) (s : State) :
    (fireSplice r i x f s).lineTime = s.lineTime ∧ (fireSplice r i x f s).inReset = s.inReset ∧
    (fireSplice r i x f s).resetCause = s.resetCause ∧ (fireSplice r i x f s).levels = s.levels ∧
    (fireSplice r i x f s).feed = s.feed ∧ (fireSplice r i x f s).carrier = s.carrier ∧
    (fireSplice r i x f s).tracking = s.tracking ∧ (fireSplice r i x f s).slots = s.slots ∧
    (fireSplice r i x f s).orders = s.orders ∧ (fireSplice r i x f s).planner = s.planner ∧
    (fireSplice r i x f s).plan = s.plan ∧ (fireSplice r i x f s).marks = s.marks ∧
    (fireSplice r i x f s).head = s.head ∧ (fireSplice r i x f s).run = s.run ∧ (fireSplice r i x f s).map = s.map ∧
    (fireSplice r i x f s).exitUnit = s.exitUnit ∧ (fireSplice r i x f s).heat = s.heat ∧
    (fireSplice r i x f s).links = s.links ∧ (fireSplice r i x f s).starvation = s.starvation ∧
    (fireSplice r i x f s).capture = s.capture ∧ (fireSplice r i x f s).notices = s.notices ∧
    (fireSplice r i x f s).choices = s.choices ∧ (fireSplice r i x f s).pending = s.pending := by
  simp [fireSplice]

@[simp] theorem fireCheck_frame (s : State) :
    (fireCheck s).lineTime = s.lineTime ∧ (fireCheck s).inReset = s.inReset ∧
    (fireCheck s).resetCause = s.resetCause ∧ (fireCheck s).levels = s.levels ∧ (fireCheck s).feed = s.feed ∧
    (fireCheck s).carrier = s.carrier ∧ (fireCheck s).tracking = s.tracking ∧ (fireCheck s).slots = s.slots ∧
    (fireCheck s).orders = s.orders ∧ (fireCheck s).planner = s.planner ∧ (fireCheck s).plan = s.plan ∧
    (fireCheck s).marks = s.marks ∧ (fireCheck s).head = s.head ∧ (fireCheck s).run = s.run ∧
    (fireCheck s).map = s.map ∧ (fireCheck s).exitUnit = s.exitUnit ∧ (fireCheck s).heat = s.heat ∧
    (fireCheck s).links = s.links ∧ (fireCheck s).starvation = s.starvation ∧ (fireCheck s).capture = s.capture ∧
    (fireCheck s).notices = s.notices ∧ (fireCheck s).choices = s.choices ∧ (fireCheck s).pending = s.pending := by
  unfold fireCheck
  (repeat' split) <;> simp

@[simp] theorem seamCheck_frame (s : State) :
    (seamCheck s).lineTime = s.lineTime ∧ (seamCheck s).inReset = s.inReset ∧
    (seamCheck s).resetCause = s.resetCause ∧ (seamCheck s).levels = s.levels ∧ (seamCheck s).feed = s.feed ∧
    (seamCheck s).carrier = s.carrier ∧ (seamCheck s).tracking = s.tracking ∧ (seamCheck s).slots = s.slots ∧
    (seamCheck s).orders = s.orders ∧ (seamCheck s).planner = s.planner ∧ (seamCheck s).plan = s.plan ∧
    (seamCheck s).head = s.head ∧ (seamCheck s).run = s.run ∧ (seamCheck s).exitUnit = s.exitUnit ∧
    (seamCheck s).heat = s.heat ∧ (seamCheck s).links = s.links ∧ (seamCheck s).starvation = s.starvation ∧
    (seamCheck s).capture = s.capture ∧ (seamCheck s).choices = s.choices ∧ (seamCheck s).pending = s.pending := by
  unfold seamCheck
  (repeat' split) <;> simp

@[simp] theorem unwindEvent_frame (s : State) :
    (unwindEvent s).lineTime = s.lineTime ∧ (unwindEvent s).inReset = s.inReset ∧
    (unwindEvent s).resetCause = s.resetCause ∧ (unwindEvent s).levels = s.levels ∧ (unwindEvent s).feed = s.feed ∧
    (unwindEvent s).carrier = s.carrier ∧ (unwindEvent s).tracking = s.tracking ∧ (unwindEvent s).slots = s.slots ∧
    (unwindEvent s).orders = s.orders ∧ (unwindEvent s).planner = s.planner ∧ (unwindEvent s).plan = s.plan ∧
    (unwindEvent s).head = s.head ∧ (unwindEvent s).run = s.run ∧ (unwindEvent s).exitUnit = s.exitUnit ∧
    (unwindEvent s).heat = s.heat ∧ (unwindEvent s).links = s.links ∧ (unwindEvent s).starvation = s.starvation ∧
    (unwindEvent s).capture = s.capture ∧ (unwindEvent s).choices = s.choices ∧
    (unwindEvent s).pending = s.pending := by
  simp [unwindEvent]

@[simp] theorem unwindShift_frame (s : State) :
    (unwindShift s).lineTime = s.lineTime ∧ (unwindShift s).inReset = s.inReset ∧
    (unwindShift s).resetCause = s.resetCause ∧ (unwindShift s).levels = s.levels ∧ (unwindShift s).feed = s.feed ∧
    (unwindShift s).carrier = s.carrier ∧ (unwindShift s).tracking = s.tracking ∧ (unwindShift s).slots = s.slots ∧
    (unwindShift s).orders = s.orders ∧ (unwindShift s).planner = s.planner ∧ (unwindShift s).plan = s.plan ∧
    (unwindShift s).marks = s.marks ∧ (unwindShift s).head = s.head ∧ (unwindShift s).run = s.run ∧
    (unwindShift s).map = s.map ∧ (unwindShift s).exitUnit = s.exitUnit ∧ (unwindShift s).heat = s.heat ∧
    (unwindShift s).links = s.links ∧ (unwindShift s).starvation = s.starvation ∧
    (unwindShift s).capture = s.capture ∧ (unwindShift s).choices = s.choices ∧
    (unwindShift s).pending = s.pending := by
  simp [unwindShift]

@[simp] theorem intervalTick_frame (d : Direction) (s : State) :
    (intervalTick d s).lineTime = s.lineTime ∧ (intervalTick d s).inReset = s.inReset ∧
    (intervalTick d s).resetCause = s.resetCause ∧ (intervalTick d s).levels = s.levels ∧
    (intervalTick d s).feed = s.feed ∧ (intervalTick d s).carrier = s.carrier ∧
    (intervalTick d s).tracking = s.tracking ∧ (intervalTick d s).slots = s.slots ∧
    (intervalTick d s).orders = s.orders ∧ (intervalTick d s).planner = s.planner ∧
    (intervalTick d s).plan = s.plan ∧ (intervalTick d s).marks = s.marks ∧ (intervalTick d s).head = s.head ∧
    (intervalTick d s).run = s.run ∧ (intervalTick d s).map = s.map ∧ (intervalTick d s).exitUnit = s.exitUnit ∧
    (intervalTick d s).heat = s.heat ∧ (intervalTick d s).links = s.links ∧
    (intervalTick d s).starvation = s.starvation ∧ (intervalTick d s).capture = s.capture ∧
    (intervalTick d s).notices = s.notices ∧ (intervalTick d s).choices = s.choices ∧
    (intervalTick d s).pending = s.pending := by
  unfold intervalTick
  (repeat' split) <;> simp

@[simp] theorem onRunning_frame (f : RollRecord → RollRecord) (s : State) :
    (onRunning f s).lineTime = s.lineTime ∧ (onRunning f s).inReset = s.inReset ∧
    (onRunning f s).resetCause = s.resetCause ∧ (onRunning f s).levels = s.levels ∧ (onRunning f s).feed = s.feed ∧
    (onRunning f s).carrier = s.carrier ∧ (onRunning f s).tracking = s.tracking ∧ (onRunning f s).slots = s.slots ∧
    (onRunning f s).orders = s.orders ∧ (onRunning f s).planner = s.planner ∧ (onRunning f s).plan = s.plan ∧
    (onRunning f s).marks = s.marks ∧ (onRunning f s).head = s.head ∧ (onRunning f s).run = s.run ∧
    (onRunning f s).map = s.map ∧ (onRunning f s).exitUnit = s.exitUnit ∧ (onRunning f s).heat = s.heat ∧
    (onRunning f s).links = s.links ∧ (onRunning f s).starvation = s.starvation ∧
    (onRunning f s).capture = s.capture ∧ (onRunning f s).notices = s.notices ∧ (onRunning f s).choices = s.choices ∧
    (onRunning f s).pending = s.pending := by
  unfold onRunning
  (repeat' split) <;> simp

@[simp] theorem overflowInterval_frame (s : State) :
    (overflowInterval s).lineTime = s.lineTime ∧ (overflowInterval s).inReset = s.inReset ∧
    (overflowInterval s).resetCause = s.resetCause ∧ (overflowInterval s).levels = s.levels ∧
    (overflowInterval s).feed = s.feed ∧ (overflowInterval s).carrier = s.carrier ∧
    (overflowInterval s).tracking = s.tracking ∧ (overflowInterval s).slots = s.slots ∧
    (overflowInterval s).orders = s.orders ∧ (overflowInterval s).planner = s.planner ∧
    (overflowInterval s).plan = s.plan ∧ (overflowInterval s).marks = s.marks ∧ (overflowInterval s).head = s.head ∧
    (overflowInterval s).run = s.run ∧ (overflowInterval s).map = s.map ∧
    (overflowInterval s).exitUnit = s.exitUnit ∧ (overflowInterval s).heat = s.heat ∧
    (overflowInterval s).links = s.links ∧ (overflowInterval s).starvation = s.starvation ∧
    (overflowInterval s).capture = s.capture ∧ (overflowInterval s).choices = s.choices ∧
    (overflowInterval s).pending = s.pending := by
  simp only [overflowInterval]
  (repeat' split) <;> simp

@[simp] theorem runningPulse_frame (s : State) :
    (runningPulse s).lineTime = s.lineTime ∧ (runningPulse s).inReset = s.inReset ∧
    (runningPulse s).resetCause = s.resetCause ∧ (runningPulse s).levels = s.levels ∧
    (runningPulse s).carrier = s.carrier ∧ (runningPulse s).tracking = s.tracking ∧
    (runningPulse s).slots = s.slots ∧ (runningPulse s).orders = s.orders ∧ (runningPulse s).planner = s.planner ∧
    (runningPulse s).plan = s.plan ∧ (runningPulse s).marks = s.marks ∧ (runningPulse s).exitUnit = s.exitUnit ∧
    (runningPulse s).heat = s.heat ∧ (runningPulse s).links = s.links ∧ (runningPulse s).starvation = s.starvation ∧
    (runningPulse s).capture = s.capture ∧ (runningPulse s).choices = s.choices ∧
    (runningPulse s).pending = s.pending := by
  unfold runningPulse
  (repeat' split) <;> simp

@[simp] theorem completeCheck_frame (s : State) :
    (completeCheck s).lineTime = s.lineTime ∧ (completeCheck s).inReset = s.inReset ∧
    (completeCheck s).resetCause = s.resetCause ∧ (completeCheck s).levels = s.levels ∧
    (completeCheck s).carrier = s.carrier ∧ (completeCheck s).tracking = s.tracking ∧
    (completeCheck s).slots = s.slots ∧ (completeCheck s).orders = s.orders ∧ (completeCheck s).planner = s.planner ∧
    (completeCheck s).plan = s.plan ∧ (completeCheck s).marks = s.marks ∧ (completeCheck s).exitUnit = s.exitUnit ∧
    (completeCheck s).heat = s.heat ∧ (completeCheck s).links = s.links ∧
    (completeCheck s).starvation = s.starvation ∧ (completeCheck s).capture = s.capture ∧
    (completeCheck s).choices = s.choices ∧ (completeCheck s).pending = s.pending := by
  unfold completeCheck
  (repeat' split) <;> simp

@[simp] theorem frontOpened_frame (s : State) :
    (frontOpened s).lineTime = s.lineTime ∧ (frontOpened s).inReset = s.inReset ∧
    (frontOpened s).resetCause = s.resetCause ∧ (frontOpened s).levels = s.levels ∧ (frontOpened s).feed = s.feed ∧
    (frontOpened s).carrier = s.carrier ∧ (frontOpened s).tracking = s.tracking ∧ (frontOpened s).slots = s.slots ∧
    (frontOpened s).orders = s.orders ∧ (frontOpened s).planner = s.planner ∧ (frontOpened s).plan = s.plan ∧
    (frontOpened s).head = s.head ∧ (frontOpened s).run = s.run ∧ (frontOpened s).map = s.map ∧
    (frontOpened s).exitUnit = s.exitUnit ∧ (frontOpened s).heat = s.heat ∧ (frontOpened s).unwind = s.unwind ∧
    (frontOpened s).links = s.links ∧ (frontOpened s).starvation = s.starvation ∧
    (frontOpened s).capture = s.capture ∧ (frontOpened s).notices = s.notices ∧ (frontOpened s).choices = s.choices ∧
    (frontOpened s).pending = s.pending := by
  unfold frontOpened
  (repeat' split) <;> simp

@[simp] theorem takeMiss_frame (e : Expectation) (r : List Expectation) (o : OutcomeRecord) (s : State) :
    (takeMiss e r o s).lineTime = s.lineTime ∧ (takeMiss e r o s).inReset = s.inReset ∧
    (takeMiss e r o s).resetCause = s.resetCause ∧ (takeMiss e r o s).levels = s.levels ∧
    (takeMiss e r o s).feed = s.feed ∧ (takeMiss e r o s).carrier = s.carrier ∧
    (takeMiss e r o s).tracking = s.tracking ∧ (takeMiss e r o s).slots = s.slots ∧
    (takeMiss e r o s).orders = s.orders ∧ (takeMiss e r o s).plan = s.plan ∧ (takeMiss e r o s).head = s.head ∧
    (takeMiss e r o s).run = s.run ∧ (takeMiss e r o s).exitUnit = s.exitUnit ∧ (takeMiss e r o s).heat = s.heat ∧
    (takeMiss e r o s).unwind = s.unwind ∧ (takeMiss e r o s).links = s.links ∧
    (takeMiss e r o s).starvation = s.starvation ∧ (takeMiss e r o s).capture = s.capture ∧
    (takeMiss e r o s).choices = s.choices ∧ (takeMiss e r o s).pending = s.pending := by
  simp only [takeMiss]
  (repeat' split) <;> simp

@[simp] theorem judgeFront_frame (n : Nat) (s : State) :
    (judgeFront n s).lineTime = s.lineTime ∧ (judgeFront n s).inReset = s.inReset ∧
    (judgeFront n s).resetCause = s.resetCause ∧ (judgeFront n s).levels = s.levels ∧
    (judgeFront n s).feed = s.feed ∧ (judgeFront n s).carrier = s.carrier ∧ (judgeFront n s).tracking = s.tracking ∧
    (judgeFront n s).slots = s.slots ∧ (judgeFront n s).orders = s.orders ∧ (judgeFront n s).plan = s.plan ∧
    (judgeFront n s).head = s.head ∧ (judgeFront n s).run = s.run ∧ (judgeFront n s).exitUnit = s.exitUnit ∧
    (judgeFront n s).heat = s.heat ∧ (judgeFront n s).unwind = s.unwind ∧ (judgeFront n s).links = s.links ∧
    (judgeFront n s).starvation = s.starvation ∧ (judgeFront n s).capture = s.capture ∧
    (judgeFront n s).choices = s.choices ∧ (judgeFront n s).pending = s.pending := by
  induction n generalizing s with
  | zero => simp [judgeFront]
  | succ n ih => unfold judgeFront; (repeat' split) <;> simp [ih]

@[simp] theorem judgeMisses_frame (s : State) :
    (judgeMisses s).lineTime = s.lineTime ∧ (judgeMisses s).inReset = s.inReset ∧
    (judgeMisses s).resetCause = s.resetCause ∧ (judgeMisses s).levels = s.levels ∧ (judgeMisses s).feed = s.feed ∧
    (judgeMisses s).carrier = s.carrier ∧ (judgeMisses s).tracking = s.tracking ∧ (judgeMisses s).slots = s.slots ∧
    (judgeMisses s).orders = s.orders ∧ (judgeMisses s).plan = s.plan ∧ (judgeMisses s).head = s.head ∧
    (judgeMisses s).run = s.run ∧ (judgeMisses s).exitUnit = s.exitUnit ∧ (judgeMisses s).heat = s.heat ∧
    (judgeMisses s).unwind = s.unwind ∧ (judgeMisses s).links = s.links ∧ (judgeMisses s).starvation = s.starvation ∧
    (judgeMisses s).capture = s.capture ∧ (judgeMisses s).choices = s.choices ∧
    (judgeMisses s).pending = s.pending := by
  simp [judgeMisses]

@[simp] theorem markTick_frame (d : Direction) (s : State) :
    (markTick d s).lineTime = s.lineTime ∧ (markTick d s).inReset = s.inReset ∧
    (markTick d s).resetCause = s.resetCause ∧ (markTick d s).levels = s.levels ∧ (markTick d s).feed = s.feed ∧
    (markTick d s).carrier = s.carrier ∧ (markTick d s).tracking = s.tracking ∧ (markTick d s).slots = s.slots ∧
    (markTick d s).orders = s.orders ∧ (markTick d s).plan = s.plan ∧ (markTick d s).head = s.head ∧
    (markTick d s).run = s.run ∧ (markTick d s).exitUnit = s.exitUnit ∧ (markTick d s).heat = s.heat ∧
    (markTick d s).unwind = s.unwind ∧ (markTick d s).links = s.links ∧ (markTick d s).starvation = s.starvation ∧
    (markTick d s).capture = s.capture ∧ (markTick d s).choices = s.choices ∧ (markTick d s).pending = s.pending := by
  simp only [markTick]
  (repeat' split) <;> simp

@[simp] theorem judgeHot_frame (z : ZoneId) (s : State) :
    (judgeHot z s).lineTime = s.lineTime ∧ (judgeHot z s).inReset = s.inReset ∧
    (judgeHot z s).resetCause = s.resetCause ∧ (judgeHot z s).levels = s.levels ∧ (judgeHot z s).feed = s.feed ∧
    (judgeHot z s).carrier = s.carrier ∧ (judgeHot z s).tracking = s.tracking ∧ (judgeHot z s).slots = s.slots ∧
    (judgeHot z s).orders = s.orders ∧ (judgeHot z s).planner = s.planner ∧ (judgeHot z s).plan = s.plan ∧
    (judgeHot z s).marks = s.marks ∧ (judgeHot z s).head = s.head ∧ (judgeHot z s).run = s.run ∧
    (judgeHot z s).map = s.map ∧ (judgeHot z s).exitUnit = s.exitUnit ∧ (judgeHot z s).unwind = s.unwind ∧
    (judgeHot z s).links = s.links ∧ (judgeHot z s).starvation = s.starvation ∧ (judgeHot z s).capture = s.capture ∧
    (judgeHot z s).choices = s.choices ∧ (judgeHot z s).pending = s.pending := by
  simp only [judgeHot]
  (repeat' split) <;> simp

@[simp] theorem offerReport_frame (r : Report) (s : State) :
    (offerReport r s).lineTime = s.lineTime ∧ (offerReport r s).inReset = s.inReset ∧
    (offerReport r s).resetCause = s.resetCause ∧ (offerReport r s).levels = s.levels ∧
    (offerReport r s).feed = s.feed ∧ (offerReport r s).carrier = s.carrier ∧
    (offerReport r s).tracking = s.tracking ∧ (offerReport r s).slots = s.slots ∧
    (offerReport r s).orders = s.orders ∧ (offerReport r s).planner = s.planner ∧ (offerReport r s).plan = s.plan ∧
    (offerReport r s).marks = s.marks ∧ (offerReport r s).head = s.head ∧ (offerReport r s).run = s.run ∧
    (offerReport r s).heat = s.heat ∧ (offerReport r s).unwind = s.unwind ∧ (offerReport r s).links = s.links ∧
    (offerReport r s).starvation = s.starvation ∧ (offerReport r s).capture = s.capture ∧
    (offerReport r s).choices = s.choices ∧ (offerReport r s).pending = s.pending := by
  unfold offerReport
  (repeat' split) <;> simp

@[simp] theorem exitSegment_frame (g : Segment) (r : List Segment) (s : State) :
    (exitSegment g r s).lineTime = s.lineTime ∧ (exitSegment g r s).inReset = s.inReset ∧
    (exitSegment g r s).resetCause = s.resetCause ∧ (exitSegment g r s).levels = s.levels ∧
    (exitSegment g r s).carrier = s.carrier ∧ (exitSegment g r s).tracking = s.tracking ∧
    (exitSegment g r s).orders = s.orders ∧ (exitSegment g r s).marks = s.marks ∧ (exitSegment g r s).heat = s.heat ∧
    (exitSegment g r s).links = s.links ∧ (exitSegment g r s).starvation = s.starvation ∧
    (exitSegment g r s).capture = s.capture ∧ (exitSegment g r s).choices = s.choices ∧
    (exitSegment g r s).pending = s.pending := by
  simp only [exitSegment]
  (repeat' split) <;> simp

@[simp] theorem judgeExits_frame (n : Nat) (s : State) :
    (judgeExits n s).lineTime = s.lineTime ∧ (judgeExits n s).inReset = s.inReset ∧
    (judgeExits n s).resetCause = s.resetCause ∧ (judgeExits n s).levels = s.levels ∧
    (judgeExits n s).carrier = s.carrier ∧ (judgeExits n s).tracking = s.tracking ∧
    (judgeExits n s).orders = s.orders ∧ (judgeExits n s).marks = s.marks ∧ (judgeExits n s).heat = s.heat ∧
    (judgeExits n s).links = s.links ∧ (judgeExits n s).starvation = s.starvation ∧
    (judgeExits n s).capture = s.capture ∧ (judgeExits n s).choices = s.choices ∧
    (judgeExits n s).pending = s.pending := by
  induction n generalizing s with
  | zero => simp [judgeExits]
  | succ n ih => unfold judgeExits; (repeat' split) <;> simp [ih]

/-! ## The feed position, which only ticks and the line clear change (R3) -/

@[simp] theorem enterHalted_feedPosition (c : Cause) (s : State) :
    (enterHalted c s).feed.position = s.feed.position := by
  unfold enterHalted
  (repeat' split) <;> simp

@[simp] theorem addCause_feedPosition (c : Cause) (s : State) : (addCause c s).feed.position = s.feed.position := by
  unfold addCause
  (repeat' split) <;> simp

@[simp] theorem reportDrain_feedPosition (s : State) : (reportDrain s).feed.position = s.feed.position := by
  unfold reportDrain
  (repeat' split) <;> simp [enterStopped]

@[simp] theorem reachFold_feedPosition (n : Serial) (p : Nat) (w h : StrokeCode) (s : State) :
    (reachFold n p w h s).feed.position = s.feed.position := by
  unfold reachFold
  (repeat' split) <;> simp

@[simp] theorem closePanel_feedPosition (n : Serial) (s : State) :
    (closePanel n s).feed.position = s.feed.position := by
  simp [closePanel]

end Sys2Proof.Machine
end

