-- ==== Sys2Proof/Laws/Ops.lean ====
section
/-!
SUPPORT. For each shared operation, what it can do, said once: the free order of visits, the taking of a request, adding a
cause, notices, the loops over the plan, the expectations and the segments.
-/

namespace Sys2Proof.Machine

/-! ## The free order of visits -/

theorem mem_of_mem_arrange {α : Type} (fuel n : Nat) (l : List α) (x : α) (h : x ∈ arrange fuel n l) : x ∈ l := by
  induction fuel generalizing n l with
  | zero => exact h
  | succ fuel ih =>
    unfold arrange at h
    split at h
    · exact h
    · rename_i y hy
      rcases List.mem_cons.mp h with rfl | h
      · exact List.mem_of_getElem? hy
      · exact List.mem_of_mem_eraseIdx (ih _ _ h)

theorem foldl_keeps (P : State → Prop) (fs : List (State → State)) (h : ∀ f ∈ fs, ∀ t, P t → P (f t)) (s : State)
    (hs : P s) : P (fs.foldl (fun t f => f t) s) := by
  induction fs generalizing s with
  | nil => exact hs
  | cons f fs ih =>
    exact ih (fun g hg => h g (List.mem_cons_of_mem _ hg)) _ (h f List.mem_cons_self s hs)

/-- What every visitor keeps, and the drawing of a free choice keeps, the visits keep in whatever order they come. -/
theorem runVisits_keeps (P : State → Prop) (fs : List (State → State)) (h : ∀ f ∈ fs, ∀ t, P t → P (f t)) (s : State)
    (hc : P { s with choices := s.choices + 1 }) (hs : P s) : P (runVisits s fs) := by
  unfold runVisits
  split
  · exact hs
  · exact h _ List.mem_cons_self s hs
  · exact foldl_keeps P _ (fun f hf => h f (mem_of_mem_arrange _ _ _ _ hf)) _ hc

@[simp] theorem runVisits_nil (s : State) : runVisits s [] = s := rfl

@[simp] theorem runVisits_single (s : State) (f : State → State) : runVisits s [f] = f s := rfl

/-! ## Taking a request -/

/-- A request that its link's checks pass is concluded by its own rule, after the grant. -/
theorem takeRequest_of_taking (c : RequestCode) (rule : Link → List Byte → State → Reply) (l : Link) (r : QueuedRequest)
    (s : State) (h : Taking c l r s) :
    takeRequest c rule s = conclude l r.code (grant l s) (rule l r.args (grant l s)) := by
  obtain ⟨h1, h2, h3, h4, h5, h6, h7⟩ := h
  unfold takeRequest
  rw [h1, h2]
  cases hq : (s.links.get l).requests with
  | nil => rw [hq] at h3; cases h3
  | cons x xs =>
    rw [hq] at h3
    cases h3
    simp [h4, h5, h6, h7, hq]

/-- Everything that taking a request can do: nothing, a refusal by the link's checks, or the conclusion of its rule. -/
theorem takeRequest_cases (c : RequestCode) (rule : Link → List Byte → State → Reply) (s : State) :
    takeRequest c rule s = s ∨
      ∃ l r, s.inReset = false ∧ grantee s = some l ∧ (s.links.get l).requests.head? = some r ∧
        requestOf r.code.toNat = some c ∧
        (takeRequest c rule s = refuse l r.code .role (grant l s) ∨
          takeRequest c rule s = refuse l r.code .length (grant l s) ∨
          (Taking c l r s ∧ takeRequest c rule s = conclude l r.code (grant l s) (rule l r.args (grant l s)))) := by
  by_cases hr : s.inReset = true
  · left; simp [takeRequest, hr]
  rw [Bool.not_eq_true] at hr
  cases hg : grantee s with
  | none => left; simp [takeRequest, hr, hg]
  | some l =>
    cases hq : (s.links.get l).requests with
    | nil => left; simp [takeRequest, hr, hg, hq]
    | cons r rest =>
      by_cases hc : requestOf r.code.toNat = some c
      · refine .inr ⟨l, r, hr, rfl, by rw [hq]; rfl, hc, ?_⟩
        by_cases ha : c.acceptedOn l = true
        · by_cases hl : r.overLength = false ∧ c.lengthOk r.args.length = true
          · have ht : Taking c l r s := ⟨hr, hg, by rw [hq]; rfl, hc, ha, hl.1, hl.2⟩
            exact .inr (.inr ⟨ht, takeRequest_of_taking c rule l r s ht⟩)
          · right; left
            have : (r.overLength || !c.lengthOk r.args.length) = true := by
              cases h1 : r.overLength <;> cases h2 : c.lengthOk r.args.length <;> simp_all
            simp only [takeRequest, hr, hg, hq, hc, ha, this]
            simp
        · left
          rw [Bool.not_eq_true] at ha
          simp [takeRequest, hr, hg, hq, hc, ha]
      · left; simp [takeRequest, hr, hg, hq, hc]

@[simp] theorem conclude_granted (l : Link) (code : Byte) (s t : State) (d : List Byte) :
    conclude l code s (.granted t d) = respond l code .granted d t := rfl

@[simp] theorem conclude_refused (l : Link) (code : Byte) (s : State) (why : ResultCode) :
    conclude l code s (.refused why) = refuse l code why s := rfl

/-! ## Adding a cause -/

theorem addCause_of_has (c : Cause) (s : State) (h : s.run.causes.has c = true) : addCause c s = s := by
  simp [addCause, h]

@[simp] theorem haltHead_run (s : State) : (haltHead s).run = s.run := by simp

/-- A cause not in the set is added to it, and the line is HALTED after it (R94). -/
theorem addCause_run (c : Cause) (s : State) (h : s.run.causes.has c = false) :
    (addCause c s).run.state = .halted ∧ (addCause c s).run.causes = s.run.causes.add c := by
  unfold addCause
  rw [h]
  by_cases hs : s.run.state = .halted
  · simp [hs]
  · simp only [Bool.false_eq_true, if_false, hs, enterHalted]
    split <;> simp

/-- Whatever a cause does, it is in the set afterwards. -/
theorem addCause_has (c : Cause) (s : State) : (addCause c s).run.causes.has c = true := by
  by_cases h : s.run.causes.has c = true
  · rw [addCause_of_has c s h, h]
  · rw [Bool.not_eq_true] at h
    rw [(addCause_run c s h).2]
    simp

/-- No addition takes a cause out of the set. -/
theorem addCause_mono (c d : Cause) (s : State) (h : s.run.causes.has d = true) : (addCause c s).run.causes.has d = true := by
  by_cases hc : s.run.causes.has c = true
  · rw [addCause_of_has c s hc, h]
  · rw [Bool.not_eq_true] at hc
    rw [(addCause_run c s hc).2]
    by_cases hd : d = c
    · subst hd; simp
    · rw [causeSet_has_add_other _ _ _ hd, h]

/-- The invariant of R93 is kept by every addition. -/
theorem addCause_haltInv (c : Cause) (s : State) (h : HaltInv s) : HaltInv (addCause c s) := by
  by_cases hc : s.run.causes.has c = true
  · rwa [addCause_of_has c s hc]
  · rw [Bool.not_eq_true] at hc
    have hr := addCause_run c s hc
    unfold HaltInv
    rw [hr.1, hr.2]
    simp [causeSet_add_ne_none]

/-! ## Notices -/

theorem mem_insertRanked (n m : Notice) (l : List Notice) : m ∈ insertRanked n l ↔ m = n ∨ m ∈ l := by
  induction l with
  | nil => simp [insertRanked]
  | cons x xs ih =>
    unfold insertRanked
    split
    · rename_i h; subst h; simp
    · split
      · simp
      · simp only [List.mem_cons, ih]
        constructor
        · rintro (h | h | h)
          · exact .inr (.inl h)
          · exact .inl h
          · exact .inr (.inr h)
        · rintro (h | h | h)
          · exact .inr (.inl h)
          · exact .inl h
          · exact .inr (.inr h)

/-- What a link's pending set holds after a notice is raised: what it held, and the notice if the link subscribes to its
class (R192). -/
theorem mem_deliver (n m : Notice) (b : NoticeBox) :
    m ∈ (b.deliver n).pendingSet ↔ (m = n ∧ b.subscription.holds n = true) ∨ m ∈ b.pendingSet := by
  unfold NoticeBox.deliver
  split
  · rename_i h; simp [mem_insertRanked, h]
  · rename_i h; simp [h]

@[simp] theorem deliver_subscription (n : Notice) (b : NoticeBox) : (b.deliver n).subscription = b.subscription := by
  unfold NoticeBox.deliver
  split <;> rfl

@[simp] theorem raise_notices_get (n : Notice) (s : State) (l : Link) :
    (raise n s).notices.get l = (s.notices.get l).deliver n := by cases l <;> rfl

/-! ## The loops -/

/-- With nothing reached, the head has nothing to do at an event (R73). -/
theorem consume_of_not_reached (n : Nat) (s : State) (h : headReached s = false) : consume n s = s := by
  cases n with
  | zero => rfl
  | succ n =>
    unfold consume
    cases hp : s.plan with
    | nil => rfl
    | cons e rest =>
      simp only [headReached, hp, decide_eq_false_iff_not, not_le] at h
      simp [h]

theorem headEvent_of_not_reached (s : State) (h : headReached s = false) : headEvent s = s := by
  simp [headEvent, consume_of_not_reached _ s h]

/-- With the front expectation not missed, the Mark Unit's judgement changes nothing (R62). -/
theorem judgeMisses_of_not_due (s : State) (h : ∀ e ∈ s.marks.list.head?, missDue s e = false) : judgeMisses s = s := by
  unfold judgeMisses
  cases hl : s.marks.list with
  | nil => simp [judgeFront]
  | cons e rest =>
    rw [hl] at h
    simp only [List.length_cons]
    unfold judgeFront
    simp [hl, h e rfl]

/-- With the oldest segment not at the exit, the Exit Unit's judgement changes nothing (R117). -/
theorem judgeExits_of_not_due (n : Nat) (s : State) (h : ∀ g ∈ s.map.segments.head?, exitDue s g = false) :
    judgeExits n s = s := by
  cases n with
  | zero => rfl
  | succ n =>
    unfold judgeExits
    cases hl : s.map.segments with
    | nil => rfl
    | cons g rest =>
      rw [hl] at h
      simp [h g rfl]

/-! ## Head outputs and firing -/

/-- A line not producing fires no fold: the fold reached is missed (R75). -/
theorem reachFold_at_rest (n : Serial) (p : Nat) (w h : StrokeCode) (s : State) (hs : producing s = false) :
    reachFold n p w h s = missFold n { s with head := { s.head with region := .folding } } := by
  simp [reachFold, hs]

/-- The run state, the cause set and the rest of the line's record pass through the head's own records. -/
theorem producing_iff (s : State) : producing s = true ↔ s.run.state = .running ∨ s.run.state = .draining := by
  unfold producing
  cases s.run.state <;> decide

/-! ## A forward tick -/

/-- The rows of R1's sequence that go forward decode to a forward tick. -/
theorem decodeTick_of_forward (s : State) (a b : Bool)
    (h : ((s.levels.feedA, s.levels.feedB), (a, b), Direction.forward) ∈ encoderTable) :
    decodeTick s.levels.feedA s.levels.feedB a b = some .forward := by
  generalize s.levels.feedA = x at *
  generalize s.levels.feedB = y at *
  revert h
  cases x <;> cases y <;> cases a <;> cases b <;> decide

/-- Short of the window's end the Mark Unit's judgement changes nothing, in any state with the same list and settings (R62). -/
theorem judgeMisses_of_noMarkMissed (s u : State) (h : NoMarkMissed u.feed.position s s.marks.list)
    (hl : u.marks.list = s.marks.list) (ht : u.tracking = s.tracking) : judgeMisses u = u := by
  apply judgeMisses_of_not_due
  intro e he
  have := h e (hl ▸ he)
  simp only [missDue, ht, Bool.and_eq_false_iff, decide_eq_false_iff_not]
  omega

/-- What a forward tick makes of an open measurement, the front expectation not missed (R59). -/
theorem markTick_forward (s : State) (h : NoMarkMissed s.feed.position s s.marks.list) :
    markTick .forward s =
      { s with
        marks := { s.marks with
          measurement := s.marks.measurement.map (fun q =>
            { q with
              width := q.width + 1
              spoiled := if q.spoiled = none ∧ s.tracking.markWidthMax < q.width + 1 then some .width else q.spoiled }) } } := by
  have hj := fun m : Option Measurement =>
    judgeMisses_of_noMarkMissed s { s with marks := { s.marks with measurement := m } } h rfl rfl
  cases hq : s.marks.measurement with
  | none => simp only [markTick, hq, Option.map_none]; rw [← hq]
  | some q =>
    cases hs : q.spoiled with
    | none => by_cases hw : s.tracking.markWidthMax < q.width + 1 <;> simp [markTick, hq, hs, hw, hj] <;> omega
    | some r => simp [markTick, hq, hs]

/-- What a forward tick makes of an open revolution interval (R156). -/
theorem intervalTick_forward (s : State) :
    intervalTick .forward s =
      { s with
        unwind := { s.unwind with
          interval := s.unwind.interval.map (fun i => { i with n := if i.n ≤ 4194303 then i.n + 1 else i.n }) } } := by
  cases hi : s.unwind.interval with
  | none => simp only [intervalTick, hi, Option.map_none]; rw [← hi]
  | some i => simp only [intervalTick, hi, Option.map_some]; rfl

/-- What a forward tick short of the end of the range does, the front expectation not missed: the tick's own account, then
the head and the Unwind Unit where one of their positions is reached (R2, R5). -/
theorem exec_forwardTick (a b : Bool) (s : State) (h : ForwardTick a b s)
    (hm : NoMarkMissed (s.feed.position + 1) s s.marks.list) :
    exec (.feedEncoderChange a b) s =
      .next
        (runVisits (forwardTicked a b s)
          ((if headReached (forwardTicked a b s) then [headEvent] else []) ++
            (if unwindReached (forwardTicked a b s) then [unwindEvent] else []))) := by
  obtain ⟨hr, ht, hp⟩ := h
  have hlt : s.feed.position < posMax := by unfold posMax; omega
  have hne : s.feed.position + 1 ≠ posMax := by unfold posMax; omega
  have hpos : (s.feed.tick .forward (producing s) s.lineTime).position = s.feed.position + 1 := by
    simp [FeedTracker.tick, movePosition, hlt]
  have account :
      intervalTick .forward
          (markTick .forward
            { s with
              levels := { s.levels with feedA := a, feedB := b }
              feed := s.feed.tick .forward (producing s) s.lineTime }) =
        forwardTicked a b s := by
    rw [markTick_forward _ (by rw [hpos]; exact hm), intervalTick_forward]
    simp [forwardTicked, FeedTracker.tick, movePosition, hlt]
  show execFeedEncoderChange a b s = _
  unfold execFeedEncoderChange
  rw [if_neg (by simp [hr])]
  dsimp only
  rw [decodeTick_of_forward s a b ht]
  refine congrArg Host.Outcome.next ?_
  unfold feedTick
  dsimp only
  rw [show ∀ lv, producing { s with levels := lv } = producing s from fun _ => rfl, account,
    judgeMisses_of_noMarkMissed s (forwardTicked a b s) hm rfl rfl]
  simp [feedCause, hpos, hne]

/-- Short of every plan entry the head is not reached (R73). -/
theorem headReached_of_none (s : State) (h : NoEntryReached s.feed.position s.plan) : headReached s = false := by
  unfold headReached
  split
  · rfl
  · rename_i e rest he
    have := h e (by simp [he])
    simpa using this

/-- Short of the fire, the knife and the seam position the Unwind Unit is not reached (R5). -/
theorem unwindReached_of_none (s : State) (h : NoSplicePointReached s.feed.position s.unwind) :
    unwindReached s = false := by
  obtain ⟨h1, h2, h3⟩ := h
  simp only [unwindReached, Bool.or_eq_false_iff]
  constructor <;> split <;>
    first
      | rfl
      | (rename_i hs; first | simpa using h1 _ _ _ _ hs | simpa using h2 _ _ _ _ _ _ hs | simpa using h3 _ hs)

/-! ## Transactions -/

/-- The begin of a transaction touches its own port only, and of it only the record of the transaction (R177). -/
theorem beginTransaction_cases (l : Link) (s : State) :
    ((transactionBarred s l = true ∨ (s.links.get l).transaction ≠ none) ∧ beginTransaction l s = s) ∨
      (transactionBarred s l = false ∧ (s.links.get l).transaction = none ∧
        beginTransaction l s =
          { s with links := s.links.set l { s.links.get l with transaction := some (.opening (statusOf s l)) } }) := by
  unfold beginTransaction
  cases transactionBarred s l <;> cases (s.links.get l).transaction <;> simp [onLink]

/-- The completion of an operation touches its own port only, and of it only the record of the transaction (R177). -/
theorem completeOperation_eq (l : Link) (phase : TransactionPhase) (status : Byte) (n : Nat) (s : State) :
    completeOperation l phase status n s =
      { s with
        links := s.links.set l
          { s.links.get l with transaction := some phase, shifted := statusThenZeros status n } } := rfl

/-- The end of a transaction touches its own port only, and of it only the record of the transaction (R177). -/
theorem endTransaction_eq (l : Link) (out : List Byte) (s : State) :
    endTransaction l out s =
      { s with
        links := s.links.set l { s.links.get l with transaction := none, shifted := (s.links.get l).shifted ++ out } } := rfl

/-- What a fetch can do at its end (R180): its response is removed, its whole frame shifted out, or every queue stands. -/
theorem execFetch_ends_cases (l : Link) (n : Nat) (s : State) :
    execFetch l (.ends n) s = .next s ∨
      ∃ r, transactionOf s l = some (.fetching r) ∧
        ((∃ x, r = some x ∧ x.frame.length ≤ n ∧
            execFetch l (.ends n) s =
              .next
                { s with
                  links := s.links.set l
                    { s.links.get l with
                      transaction := none, responses := (s.links.get l).responses.tail
                      shifted := (s.links.get l).shifted ++ shiftedOut x.frame n } }) ∨
          execFetch l (.ends n) s = .next (endTransaction l (shiftedOut (fetchFrame r) n) s)) := by
  unfold execFetch
  cases h : transactionOf s l with
  | none => exact .inl rfl
  | some phase =>
    cases phase with
    | opening _ => exact .inl rfl
    | polled => exact .inl rfl
    | framed => exact .inl rfl
    | fetching r =>
      refine .inr ⟨r, rfl, ?_⟩
      cases r with
      | none => exact .inr (by simp [endTransaction, onLink])
      | some x =>
        by_cases hn : x.frame.length ≤ n
        · exact .inl ⟨x, rfl, hn, by simp [endTransaction, onLink, fetchFrame, hn]⟩
        · exact .inr (by simp [endTransaction, onLink, fetchFrame, hn])

end Sys2Proof.Machine
end

