-- ==== Sys2Proof/Laws/Specs.lean ====
section
/-!
SUPPORT. Each operation that walks the plan, the map or the reserves meets the relation of Safety.lean that statements speak of:
one lemma for each, to be cited in place of unfolding the operation.
-/

namespace Sys2Proof.Machine

/-! ## The order of two visits -/

/-- Two blocks take an event in one order or the other, with the choice counted (log 4). -/
theorem runVisits_two (s : State) (f g : State → State) :
    runVisits s [f, g] = g (f { s with choices := s.choices + 1 }) ∨
      runVisits s [f, g] = f (g { s with choices := s.choices + 1 }) := by
  have h : (Config.freeOrder s.choices).toNat % 2 = 0 ∨ (Config.freeOrder s.choices).toNat % 2 = 1 := by omega
  rcases h with h | h
  · left
    simp [runVisits, arrange, h, Nat.mod_one]
  · right
    simp [runVisits, arrange, h, Nat.mod_one]

/-! ## Notices (R192) -/

theorem mem_deliver' (n m : Notice) (b : NoticeBox) :
    m ∈ (b.deliver n).pendingSet ↔ m ∈ b.pendingSet ∨ (m = n ∧ b.subscription.holds m = true) := by
  rw [mem_deliver]
  constructor
  · rintro (⟨rfl, h⟩ | h)
    · exact .inr ⟨rfl, h⟩
    · exact .inl h
  · rintro (h | ⟨rfl, h⟩)
    · exact .inr h
    · exact .inl ⟨rfl, h⟩

theorem rank_injective (n m : Notice) (h : n.rank = m.rank) : n = m := by
  cases n <;> cases m <;> first | rfl | (exact absurd h (by decide))

/-- A code put into a set in rank order leaves it in rank order (R192). -/
theorem pairwise_insertRanked (n : Notice) (l : List Notice) (h : (l.map Notice.rank).Pairwise (· < ·)) :
    ((insertRanked n l).map Notice.rank).Pairwise (· < ·) := by
  induction l with
  | nil => simp [insertRanked]
  | cons x xs ih =>
    rw [List.map_cons, List.pairwise_cons] at h
    unfold insertRanked
    split
    · rename_i e; subst e
      rw [List.map_cons, List.pairwise_cons]; exact h
    · rename_i hne
      split
      · rename_i hlt
        simp only [List.map_cons, List.pairwise_cons, List.mem_cons, forall_eq_or_imp]
        exact ⟨⟨hlt, fun y hy => Nat.lt_trans hlt (h.1 y hy)⟩, h.1, h.2⟩
      · rename_i hge
        rw [List.map_cons, List.pairwise_cons]
        refine ⟨?_, ih h.2⟩
        intro y hy
        obtain ⟨m, hm, rfl⟩ := List.mem_map.mp hy
        rcases (mem_insertRanked n m xs).mp hm with rfl | hm
        · have : x.rank ≠ m.rank := fun e => hne (rank_injective _ _ e.symm)
          omega
        · exact h.1 _ (List.mem_map_of_mem hm)

/-- Raising a code delivers it, and no other (R192). -/
theorem delivered_raise (n : Notice) (s : State) : Delivered (fun m => m = n) s (raise n s) := by
  intro l
  rw [raise_notices_get]
  refine ⟨deliver_subscription _ _, fun m => mem_deliver' n m _, fun h => ?_⟩
  unfold NoticeBox.deliver
  split
  · exact pairwise_insertRanked n _ h
  · exact h

theorem Delivered.refl (s : State) : Delivered (fun _ => False) s s := fun l => ⟨rfl, by simp, id⟩

/-- One event may raise several codes (R192). -/
theorem Delivered.trans {P Q : Notice → Prop} {s t u : State} (h : Delivered P s t) (k : Delivered Q t u) :
    Delivered (fun n => P n ∨ Q n) s u := by
  intro l
  obtain ⟨h1, h2, h3⟩ := h l
  obtain ⟨k1, k2, k3⟩ := k l
  refine ⟨k1.trans h1, fun n => ?_, fun hp => k3 (h3 hp)⟩
  rw [k2, h2, h1]
  constructor
  · rintro ((h | ⟨h, hs⟩) | ⟨h, hs⟩)
    · exact .inl h
    · exact .inr ⟨.inl h, hs⟩
    · exact .inr ⟨.inr h, hs⟩
  · rintro (h | ⟨h | h, hs⟩)
    · exact .inl (.inl h)
    · exact .inl (.inr ⟨h, hs⟩)
    · exact .inr ⟨h, hs⟩

/-- Only the notices of the two states and the codes themselves count. -/
theorem Delivered.congr {P Q : Notice → Prop} {s s' t t' : State} (h : Delivered P s t) (hP : ∀ n, P n ↔ Q n)
    (hs : s'.notices = s.notices) (ht : t'.notices = t.notices) : Delivered Q s' t' := by
  intro l
  obtain ⟨h1, h2, h3⟩ := h l
  rw [hs, ht]
  exact ⟨h1, fun n => by rw [h2, hP], h3⟩

/-! ## The latch and the speed ceiling (R82, R87) -/

theorem smallestSpacing_spec : ∀ l : List Nat,
    (smallestSpacing l = none ↔ (l.zip l.tail).map (fun p => p.2 - p.1) = []) ∧
      ∀ m, smallestSpacing l = some m →
        m ∈ (l.zip l.tail).map (fun p => p.2 - p.1) ∧ ∀ w ∈ (l.zip l.tail).map (fun p => p.2 - p.1), m ≤ w
  | [] => by simp [smallestSpacing]
  | [a] => by simp [smallestSpacing]
  | a :: b :: rest => by
    obtain ⟨h1, h2⟩ := smallestSpacing_spec (b :: rest)
    simp only [smallestSpacing, List.tail_cons, List.zip_cons_cons, List.map_cons] at h1 h2 ⊢
    cases hs : smallestSpacing (b :: rest) with
    | none =>
      rw [hs] at h1
      have := h1.mp rfl
      simp only [this]
      simp
    | some n =>
      obtain ⟨hm, hw⟩ := h2 n hs
      refine ⟨by simp, ?_⟩
      intro m e
      cases e
      refine ⟨?_, ?_⟩
      · rcases Nat.le_total (b - a) n with h | h
        · rw [Nat.min_eq_left h]; exact List.mem_cons_self
        · rw [Nat.min_eq_right h]; exact List.mem_cons_of_mem _ hm
      · intro w hw'
        rcases List.mem_cons.mp hw' with rfl | hw'
        · exact Nat.min_le_left _ _
        · exact Nat.le_trans (Nat.min_le_right _ _) (hw w hw')

/-- The speed ceiling meets R87. -/
theorem isCeiling_ceilingOf (l : List Nat) (setup : HeadSetup) :
    IsCeiling l (2 * setup.gap + setup.dwell) (ceilingOf l setup) := by
  obtain ⟨h1, h2⟩ := smallestSpacing_spec l
  unfold ceilingOf
  constructor
  · intro h
    rw [h1.mpr h]
  · intro m hm hmin
    cases hs : smallestSpacing l with
    | none => rw [h1.mp hs] at hm; cases hm
    | some n =>
      obtain ⟨hn, hw⟩ := h2 n hs
      have : n = m := Nat.le_antisymm (hw m hm) (hmin n hn)
      rw [this]

/-- The positions the ceiling is computed from (R87). -/
theorem ceilingPositions_eq (s : State) :
    ceilingReference s.head ++ (foldPositions s.plan).take 8 = ceilingPositions s := by
  unfold ceilingPositions ceilingReference
  congr 2
  unfold foldPositions
  induction s.plan with
  | nil => rfl
  | cons e rest ih =>
    obtain ⟨kind, pos, n⟩ := e
    cases kind <;> simp [PlanEntry.foldCodes?] <;> simpa [PlanEntry.foldCodes?] using ih

theorem firstFold_iff (plan : List PlanEntry) (w h : StrokeCode) :
    plan.findSome? PlanEntry.foldCodes? = some (w, h) ↔ FirstFold plan w h := by
  have codes : ∀ e : PlanEntry, ∀ c, e.foldCodes? = some c ↔ e.kind = .fold c.1 c.2 := by
    rintro ⟨kind, pos, n⟩ ⟨a, b⟩
    cases kind <;> simp [PlanEntry.foldCodes?]
  rw [List.findSome?_eq_some_iff]
  unfold FirstFold
  constructor
  · rintro ⟨l1, e, l2, rfl, he, hn⟩
    refine ⟨l1, e, l2, rfl, (codes _ _).mp he, fun x hx a b hk => ?_⟩
    have := hn x hx
    rw [(codes x (a, b)).mpr hk] at this
    cases this
  · rintro ⟨l1, e, l2, rfl, he, hn⟩
    refine ⟨l1, e, l2, rfl, (codes _ (w, h)).mpr he, fun x hx => ?_⟩
    cases hc : x.foldCodes? with
    | none => rfl
    | some c => exact absurd ((codes x c).mp hc) (hn x hx c.1 c.2)

/-- The head's refresh meets R82 and R87. -/
theorem refreshed_refreshHead (s : State) : Refreshed s (refreshHead s) := by
  have src : (∀ p, s.head.pendingFold = some p → latchSource s = (p.waist, p.hem)) ∧
      (∀ w h, s.head.pendingFold = none → FirstFold s.plan w h → latchSource s = (w, h)) ∧
      (s.head.pendingFold = none → (∀ w h, ¬FirstFold s.plan w h) → latchSource s = (s.head.latchW, s.head.latchH)) := by
    unfold latchSource
    refine ⟨fun p hp => by rw [hp], fun w h hp hf => ?_, fun hp hn => ?_⟩
    · rw [hp, (firstFold_iff _ _ _).mpr hf]
    · rw [hp]
      cases hc : s.plan.findSome? PlanEntry.foldCodes? with
      | none => rfl
      | some c => exact absurd ((firstFold_iff _ c.1 c.2).mp hc) (hn c.1 c.2)
  have hw : (refreshHead s).head.latchW = (latchSource s).1 ∧ (refreshHead s).head.latchH = (latchSource s).2 := by
    unfold refreshHead presentLatch
    dsimp only
    split <;> exact ⟨rfl, rfl⟩
  refine ⟨?_, ?_, ?_, ?_, ?_, ?_, ?_⟩
  · unfold refreshHead presentLatch
    dsimp only
    split <;> rfl
  · intro p hp
    rw [hw.1, hw.2, src.1 p hp]
    exact ⟨rfl, rfl⟩
  · intro w h hp hf
    rw [hw.1, hw.2, src.2.1 w h hp hf]
    exact ⟨rfl, rfl⟩
  · intro hp hn
    rw [hw.1, hw.2, src.2.2 hp hn]
    exact ⟨rfl, rfl⟩
  · intro hc hs
    unfold refreshHead presentLatch
    dsimp only
    rw [if_pos (by simp [hc, hs, BladeCycle.isIdle])]
    exact ⟨rfl, rfl⟩
  · intro h
    unfold refreshHead presentLatch
    dsimp only
    rw [if_neg (by rcases h with h | h <;> [(cases hc : s.head.cycle <;> simp_all [BladeCycle.isIdle]); simp [h]])]
    exact ⟨rfl, rfl⟩
  · have : (refreshHead s).head.ceiling =
        ceilingOf (ceilingReference s.head ++ (foldPositions s.plan).take 8) s.head.setup := by
      unfold refreshHead presentLatch
      dsimp only
      split <;> rfl
    rw [this, ceilingPositions_eq]
    exact isCeiling_ceilingOf _ _

/-! ## Causes and the records of folds (R81, R84, R94, R95) -/

theorem missPending_eq (s : State) :
    missPending s =
      { s with
        head := { s.head with pendingFold := none }
        map := match s.head.pendingFold with
          | some p => recordedOn p.serial foldMissed s.map
          | none => s.map } := by
  unfold missPending
  cases h : s.head.pendingFold with
  | none => dsimp only; rw [← h]
  | some p => rfl

/-- What a halt for a cause other than SAFE makes of the head and of the map (R84). -/
theorem haltHead_eq (s : State) : haltHead s = { s with head := headHalted s, map := foldsLost s } := by
  unfold haltHead headHalted foldsLost abortFold
  dsimp only
  cases hc : s.head.cycle <;> cases hf : s.head.inCycle <;> cases hp : s.head.pendingFold <;>
    simp [missPending_eq, flagSegment, onSegment, hp, hc, hf, recordedOn, foldAborted, PanelFlags.add]

theorem backToDue_eq (sp : Splice) : sp.backToDue = dueAgain sp := by cases sp <;> rfl

/-- The addition of a cause other than SAFE meets R94, R95 and R84. -/
theorem addCause_eq (c : Cause) (s : State) (hc : c ≠ .safe) : addCause c s = causeAdded c s := by
  unfold addCause causeAdded
  split
  · rfl
  · split
    · rfl
    · simp only [enterHalted, if_neg hc, haltHead_eq, backToDue_eq]
      rfl

/-! ## The head at the plan (R73, R74) -/

@[simp] theorem consumed_plan (e : PlanEntry) (s : State) : (consumed e s).plan = s.plan := by
  unfold consumed
  split <;> simp

@[simp] theorem consumed_feedPosition (e : PlanEntry) (s : State) :
    (consumed e s).feed.position = s.feed.position := by
  unfold consumed
  split <;> simp

/-- One turn of the head's loop over the plan (R73). -/
theorem consume_succ (n : Nat) (s : State) (e : PlanEntry) (rest : List PlanEntry) (hp : s.plan = e :: rest)
    (hr : e.position ≤ s.feed.position) :
    consume (n + 1) s =
      if e.kind = .panelStart ∧ 24 ≤ s.map.segments.length then addCause .mapFull s
      else consume n (consumed e { s with plan := rest }) := by
  obtain ⟨kind, position, serial⟩ := e
  dsimp only at hr
  cases kind <;> simp only [consume, hp, Nat.not_lt.mpr hr, if_false, consumed] <;> try rfl
  by_cases hm : s.map.segments.length < 24
  · rw [if_pos hm, if_neg (by simp; omega)]
  · rw [if_neg hm, if_pos ⟨trivial, by omega⟩]

/-- The loop with fuel for the whole plan meets R73. -/
theorem consumes_consume (n : Nat) (s : State) (h : s.plan.length ≤ n) : Consumes s (consume n s) := by
  induction n generalizing s with
  | zero =>
    refine .short s ?_
    rw [List.length_eq_zero_iff.mp (Nat.le_zero.mp h)]
    exact fun e he => nomatch he
  | succ n ih =>
    cases hp : s.plan with
    | nil =>
      rw [consume_of_not_reached _ _ (by simp [headReached, hp])]
      exact .short s (by rw [hp]; exact fun e he => nomatch he)
    | cons e rest =>
      by_cases hr : e.position ≤ s.feed.position
      · rw [consume_succ n s e rest hp hr]
        split
        · rename_i hm
          rw [addCause_eq _ _ (by decide)]
          exact .held s e rest hp hr hm.1 hm.2
        · rename_i hm
          refine .taken s _ e rest hp hr (fun hk => Nat.lt_of_not_le fun hl => hm ⟨hk, hl⟩) (ih _ ?_)
          rw [hp] at h
          simpa using h
      · rw [consume_of_not_reached _ _ (by simp [headReached, hp]; omega)]
        exact .short s (by rw [hp]; intro x hx; cases hx; omega)

/-- The head's visit meets R73. -/
theorem consumes_headEvent (s : State) : Consumes s (headEvent s) := consumes_consume _ s (Nat.le_refl _)

/-! ## The seam search (R162) -/

/-- What a search takes is the first run that qualifies. -/
theorem findSome_seamPosition (u : UnwindSettings) (feed x : Nat) (plan : List PlanEntry) :
    plan.findSome? (seamPosition u feed) = some x ↔ SearchFinds u feed plan x := by
  have fits : ∀ e y, seamPosition u feed e = some y ↔ SeamFits u feed e y := by
    intro e y
    unfold seamPosition SeamFits
    cases hk : e.kind with
    | flat len ok =>
      cases ok <;> simp
      constructor
      · rintro ⟨⟨h1, h2⟩, rfl⟩; exact ⟨h1, rfl, by omega⟩
      · rintro ⟨h1, rfl, h2⟩; exact ⟨⟨h1, by omega⟩, rfl⟩
    | _ => simp
  rw [List.findSome?_eq_some_iff]
  constructor
  · rintro ⟨l1, e, l2, rfl, he, hn⟩
    refine ⟨l1, e, l2, rfl, (fits _ _).mp he, fun w hw y hy => ?_⟩
    have := hn w hw
    rw [(fits w y).mpr hy] at this
    cases this
  · rintro ⟨l1, e, l2, rfl, he, hn⟩
    refine ⟨l1, e, l2, rfl, (fits _ _).mpr he, fun w hw => ?_⟩
    cases hs : seamPosition u feed w with
    | none => rfl
    | some y => exact absurd ((fits w y).mp hs) (hn w hw y)

/-- The search is allowed exactly where R162 has it made. -/
theorem searchAllowed_iff (s : State) : searchAllowed s = true ↔ ∃ d i, SearchDue s d i := by
  unfold searchAllowed SearchDue otherReady
  cases s.unwind.splice <;> cases runningSide s.unwind <;> simp [and_assoc]

/-- The search meets R162. -/
theorem searched_trySearch (s : State) : Searched s (trySearch s) := by
  constructor
  · intro d i x hd hx
    have ha := (searchAllowed_iff s).mpr ⟨d, i, hd⟩
    unfold trySearch
    rw [if_pos ha, hd.1, hd.2.1, (findSome_seamPosition _ _ _ _).mpr hx]
    rfl
  · rintro (h | h)
    · unfold trySearch
      rw [if_neg (fun ha => by obtain ⟨d, i, hd⟩ := (searchAllowed_iff s).mp ha; exact h d i hd)]
    · have hn : s.plan.findSome? (seamPosition s.unwind.settings s.feed.position) = none := by
        cases hf : s.plan.findSome? (seamPosition s.unwind.settings s.feed.position) with
        | none => rfl
        | some x => exact absurd ((findSome_seamPosition _ _ _ _).mp hf) (h x)
      unfold trySearch
      rw [hn]
      split
      · split <;> simp_all
      · rfl

/-! ## Appends and shifts (R55, R66, R67) -/

/-- The visits of the head and the Unwind Unit, each where it is concerned, in the order the part chooses (log 4). -/
theorem headAndUnwind_runVisits (reached due : Prop) (u : State → State) (unwound : State → State → Prop) (s : State)
    (b c : Bool) (hb : b = true ↔ reached) (hc : c = true ↔ due) (hu : ∀ m, unwound m (u m)) :
    HeadAndUnwind reached due unwound s
      (runVisits s ((if b then [headEvent] else []) ++ (if c then [u] else []))) := by
  refine ⟨?_, ?_, ?_, ?_⟩
  · intro h1 h2
    rw [if_neg (fun h => h1 (hb.mp h)), if_neg (fun h => h2 (hc.mp h))]
    rfl
  · intro h1 h2
    rw [if_pos (hb.mpr h1), if_neg (fun h => h2 (hc.mp h))]
    exact consumes_headEvent s
  · intro h1 h2
    rw [if_neg (fun h => h1 (hb.mp h)), if_pos (hc.mpr h2)]
    exact hu s
  · intro h1 h2
    rw [if_pos (hb.mpr h1), if_pos (hc.mpr h2)]
    rcases runVisits_two s headEvent u with h | h
    · left
      simp only [List.cons_append, List.nil_append, h]
      exact ⟨_, consumes_headEvent _, hu _⟩
    · right
      simp only [List.cons_append, List.nil_append, h]
      exact ⟨_, hu _, consumes_headEvent _⟩

/-- An append is taken by the head and by the Unwind Unit (R55). -/
theorem appendTaken_appendEntry (e : PlanEntry) (s : State) :
    AppendTaken e.position
      (refreshHead { s with plan := s.plan ++ [e], planner := { s.planner with lastAppended := some e.position } })
      (appendEntry e s) := by
  unfold appendEntry
  dsimp only
  generalize refreshHead
    { s with plan := s.plan ++ [e], planner := { s.planner with lastAppended := some e.position } } = t
  have := headAndUnwind_runVisits (e.position ≤ t.feed.position) _ trySearch Searched t
    (decide (e.position ≤ t.feed.position)) (searchAllowed t) decide_eq_true_iff (searchAllowed_iff t) searched_trySearch
  simpa [AppendTaken] using this

/-- A shift is taken by the head and by the Unwind Unit (R66, R67). -/
theorem shiftTaken_shiftEvent (s : State) : ShiftTaken (refreshHead s) (shiftEvent s) := by
  unfold shiftEvent ShiftTaken
  generalize refreshHead s = t
  refine headAndUnwind_runVisits _ _ unwindShift _ t (headReached t) (unwindShiftReached t) ?_ ?_ ?_
  · unfold headReached
    cases t.plan <;> simp
  · unfold unwindShiftReached
    rw [Bool.or_eq_true, searchAllowed_iff]
    cases t.unwind.splice <;> simp
  · exact fun m => searched_trySearch _

/-! ## Exits (R117) -/

/-- What a report offered by the exit of a segment leaves (R118, R120, R121, R123). -/
theorem offerReport_eq (g : Segment) (rest : List Segment) (s : State) :
    offerReport (reportOf g.judged s.lineTime)
        { s with
          exitUnit := { s.exitUnit with cut := some ⟨s.lineTime, s.tracking.cutDwell⟩, gate := g.judged.flags.isEmpty }
          map := { s.map with segments := rest } } =
      segmentLeft g rest s := by
  have flags : g.judged.flags = if g.dose < g.doseMin then { g.flags with underSet := true } else g.flags := by
    unfold Segment.judged
    split <;> rfl
  have report : reportOf g.judged s.lineTime =
      ⟨g.serial, g.tag, g.slot, g.judged.flags.isEmpty, g.judged.flags, g.dose, g.fired, g.late, g.missed, s.lineTime⟩ := by
    unfold Segment.judged
    split <;> rfl
  have empty : ∀ f : PanelFlags, f.isEmpty = decide (f = PanelFlags.none) := fun f => rfl
  rw [report, flags]
  unfold offerReport segmentLeft
  by_cases hl : s.exitUnit.reports.length < 16
  · by_cases he : s.exitUnit.reports = []
    · simp [he, empty, raise]
    · simp [hl, he, empty]
  · have he : s.exitUnit.reports ≠ [] := by
      intro h
      simp [h] at hl
    simp [hl, he, empty]

/-- The exit of the oldest segment, then the head's try (R74). -/
theorem exitSegment_eq (g : Segment) (rest : List Segment) (s : State) :
    exitSegment g rest s = headEvent (segmentLeft g rest s) := by
  unfold exitSegment
  dsimp only
  rw [offerReport_eq]
  split
  · rfl
  · rename_i h
    rw [headEvent_of_not_reached _ (by simpa using h)]

@[simp] theorem onSegment_room (n : Serial) (f : Segment → Segment) (s : State) :
    (onSegment n f s).map.segments.length = s.map.segments.length := by simp [onSegment]

@[simp] theorem flagSegment_room (n : Serial) (f : PanelFlag) (s : State) :
    (flagSegment n f s).map.segments.length = s.map.segments.length := by simp [flagSegment]

@[simp] theorem missFold_room (n : Serial) (s : State) :
    (missFold n s).map.segments.length = s.map.segments.length := by simp [missFold]

@[simp] theorem missPending_room (s : State) : (missPending s).map.segments.length = s.map.segments.length := by
  unfold missPending
  split <;> simp

@[simp] theorem abortFold_room (s : State) : (abortFold s).map.segments.length = s.map.segments.length := by
  unfold abortFold
  split <;> simp

@[simp] theorem haltHead_room (s : State) : (haltHead s).map.segments.length = s.map.segments.length := by
  unfold haltHead
  split <;> simp

@[simp] theorem addCause_room (c : Cause) (s : State) :
    (addCause c s).map.segments.length = s.map.segments.length := by
  unfold addCause enterHalted
  (repeat' split) <;> simp

@[simp] theorem reportDrain_room (s : State) : (reportDrain s).map.segments.length = s.map.segments.length := by
  unfold reportDrain enterStopped
  split <;> simp

@[simp] theorem fireFold_room (n : Serial) (p : Nat) (w h : StrokeCode) (s : State) :
    (fireFold n p w h s).map.segments.length = s.map.segments.length := by
  simp only [fireFold]
  (repeat' split) <;> simp

@[simp] theorem reachFold_room (n : Serial) (p : Nat) (w h : StrokeCode) (s : State) :
    (reachFold n p w h s).map.segments.length = s.map.segments.length := by
  unfold reachFold
  (repeat' split) <;> simp

theorem openPanel_room (n : Serial) (s : State) :
    (openPanel n s).map.segments.length ≤ s.map.segments.length + 1 := by
  unfold openPanel
  (repeat' split) <;> simp

theorem consumed_room (e : PlanEntry) (s : State) :
    (consumed e s).map.segments.length ≤ s.map.segments.length + 1 := by
  unfold consumed
  split
  · simpa using openPanel_room _ _
  all_goals simp [closePanel]

/-- The head's work on the plan makes at most one segment of each entry it removes (R74). -/
theorem consume_room (n : Nat) (s : State) :
    (consume n s).map.segments.length + (consume n s).plan.length ≤ s.map.segments.length + s.plan.length := by
  induction n generalizing s with
  | zero => exact Nat.le_refl _
  | succ n ih =>
    cases hp : s.plan with
    | nil =>
      rw [consume_of_not_reached _ _ (by simp [headReached, hp]), hp]
    | cons e rest =>
      by_cases hr : e.position ≤ s.feed.position
      · rw [consume_succ n s e rest hp hr]
        split
        · simp [hp]
        · have h1 := ih (consumed e { s with plan := rest })
          have h2 : (consumed e { s with plan := rest }).map.segments.length ≤ s.map.segments.length + 1 :=
            consumed_room e { s with plan := rest }
          simp only [consumed_plan] at h1
          simp only [List.length_cons]
          omega
      · rw [consume_of_not_reached _ _ (by simp [headReached, hp]; omega), hp]

/-- The exits meet R117, the fuel being the segments and the plan entries that may yet become segments. -/
theorem exits_judgeExits (n : Nat) (s : State) (h : s.map.segments.length + s.plan.length ≤ n) :
    Exits s (judgeExits n s) := by
  induction n generalizing s with
  | zero =>
    refine .done s ?_
    rw [List.length_eq_zero_iff.mp (by omega : s.map.segments.length = 0)]
    exact fun g hg => nomatch hg
  | succ n ih =>
    unfold judgeExits
    cases hs : s.map.segments with
    | nil => exact .done s (by rw [hs]; exact fun g hg => nomatch hg)
    | cons g rest =>
      dsimp only
      cases ht : g.trailing with
      | none =>
        rw [if_neg (by simp [exitDue, trailingDistance, ht])]
        refine .done s ?_
        rw [hs]
        intro w hw p hp
        cases hw
        rw [ht] at hp
        cases hp
      | some p =>
        by_cases hd : s.tracking.exitDistance ≤ s.carrier.position - p
        · rw [if_pos (by simpa [exitDue, trailingDistance, ht] using hd)]
          refine .leaves s _ _ g rest p hs ht hd (consumes_headEvent _) ?_
          rw [exitSegment_eq]
          refine ih _ ?_
          have := consume_room (segmentLeft g rest s).plan.length (segmentLeft g rest s)
          have hl : (segmentLeft g rest s).map.segments.length + 1 = s.map.segments.length := by rw [hs]; rfl
          have hp : (segmentLeft g rest s).plan.length = s.plan.length := rfl
          unfold headEvent
          omega
        · rw [if_neg (by simpa [exitDue, trailingDistance, ht] using hd)]
          refine .done s ?_
          rw [hs]
          intro w hw q hq
          cases hw
          rw [ht] at hq
          cases hq
          omega

/-! ## The reserves (R159, R161) -/

/-- With no record IDLE, or the roll longer than the change reserve, the change reserve is not reached (R159). -/
theorem judgeChange_of_not_due (s : State)
    (h : ∀ roll, runningRoll s.unwind = some roll →
      s.unwind.splice ≠ .idle ∨ s.unwind.settings.changeReserve < roll.length) : judgeChange s = s := by
  unfold judgeChange
  split
  · rename_i roll hi hr
    rcases h roll hr with h | h
    · exact absurd hi h
    · rw [if_neg (by omega)]
  · rfl

/-- With the roll longer than the end reserve, or a splice in progress, the end reserve is not reached (R161). -/
theorem judgeEnd_of_not_due (s : State)
    (h : ∀ roll, runningRoll s.unwind = some roll →
      s.unwind.settings.endReserve < roll.length ∨ s.unwind.splice.inProgress = true) : judgeEnd s = s := by
  unfold judgeEnd
  split
  · rename_i roll hr
    rw [if_neg (by rintro ⟨h1, h2⟩; rcases h roll hr with h | h <;> [omega; simp [h] at h2])]
  · rfl

/-- A search changes the splice record and the notices alone (R162). -/
theorem trySearch_parts (s : State) :
    trySearch s =
      { s with
        unwind := { s.unwind with splice := (trySearch s).unwind.splice }, notices := (trySearch s).notices } := by
  unfold trySearch
  split
  · split <;> rfl
  · rfl

/-- The running roll's end reserve, where it acts (R161). -/
theorem judgeEnd_due (s : State) (roll : RollRecord) (hr : runningRoll s.unwind = some roll)
    (hl : roll.length ≤ s.unwind.settings.endReserve) (hp : s.unwind.splice.inProgress = false) :
    judgeEnd s = addCause .rollOut { s with unwind := { s.unwind with splice := s.unwind.splice.backToDue } } := by
  unfold judgeEnd
  rw [hr]
  exact if_pos ⟨hl, hp⟩

/-- The judgement of the change reserve meets R159. -/
theorem changeJudged_judgeChange (s : State) : ChangeJudged s (judgeChange s) := by
  refine ⟨?_, judgeChange_of_not_due s⟩
  intro i roll hi hroll hs hl
  have change : judgeChange s = enterDue .reserve s := by
    unfold judgeChange
    rw [hs, show runningRoll s.unwind = some roll by simp [runningRoll, hi, hroll]]
    exact if_pos hl
  have ready : otherReady s.unwind = rollIs .ready (s.unwind.rolls.get (otherSide i)) := by
    unfold otherReady
    rw [hi]
  rw [change]
  constructor
  · intro hn
    have low : enterDue .reserve s =
        trySearch (raise .rollLow { s with unwind := { s.unwind with splice := .due .reserve } }) := by
      refine congrArg trySearch (if_neg ?_)
      intro h
      exact absurd ((ready.trans hn).symm.trans h) (by decide)
    rw [low]
    refine (searched_trySearch _).2 (.inl ?_)
    rintro d j ⟨_, hj, hready, _⟩
    cases hi.symm.trans hj
    exact absurd (hn.symm.trans hready) (by decide)
  · intro hy
    rw [show enterDue .reserve s = trySearch { s with unwind := { s.unwind with splice := .due .reserve } } from
      congrArg trySearch (if_pos (ready.trans hy))]
    exact searched_trySearch _

/-- The judgement of the end reserve meets R161. -/
theorem endJudged_judgeEnd (s : State) : EndJudged s (judgeEnd s) := by
  refine ⟨?_, judgeEnd_of_not_due s⟩
  intro roll hr hl hp
  rw [judgeEnd_due s roll hr hl hp, addCause_eq _ _ (by decide), backToDue_eq]

/-- The judgement of the reserves meets R159 and R161. -/
theorem reservesJudged_judgeReserves (s : State) : ReservesJudged s (judgeReserves s) :=
  ⟨judgeChange s, changeJudged_judgeChange s, endJudged_judgeEnd _⟩

/-! ## The hot latch (R137, R138) -/

/-- A forced close meets R141. -/
theorem forceClose_eq (now : LineTime) (w : Zone) : w.forceClose now = closedAt now w := by
  unfold Zone.forceClose closedAt
  cases w.phase <;> rfl

/-- The judgement of a zone's hot latch meets R137, R138 and R141. -/
theorem latchJudged_judgeHot (z : ZoneId) (s : State) : LatchJudged z s (judgeHot z s) := by
  refine ⟨?_, ?_, ?_, ?_⟩
  · intro ht hh
    simp only [judgeHot, ht, hh, if_true, Bool.false_eq_true, if_false, onZone, forceClose_eq]
    rfl
  · intro ht hh
    simp [judgeHot, ht, hh]
  · intro ht hl
    have hn : ¬(s.heat.zones.get z).limit ≤ (s.heat.probes.get z).temp := by omega
    cases hh : (s.heat.zones.get z).hot
    · have hz : ({ s.heat.zones.get z with hot := false } : Zone) = s.heat.zones.get z := by rw [← hh]
      have hset : s.heat.zones.set z (s.heat.zones.get z) = s.heat.zones := by cases z <;> rfl
      have hj : judgeHot z s = s := by simp [judgeHot, hn, hh]
      rw [hj]
      dsimp only
      rw [hz, hset]
    · simp [judgeHot, hn, hh, hl, onZone]
  · intro ht hl
    have hn : ¬(s.heat.zones.get z).limit ≤ (s.heat.probes.get z).temp := by omega
    simp only [judgeHot, hn, if_false]
    rw [if_neg (by rintro ⟨h, _⟩; omega)]

/-- The judgement anew, where a temperature is held (R135; log 17). -/
theorem latchJudgedAnew_rejudge (z : ZoneId) (s : State) : LatchJudgedAnew z s (rejudge z s) := by
  constructor
  · rintro ⟨h1, h2⟩
    unfold rejudge
    rw [if_pos (by simp [Probe.judgeable, Option.isSome_iff_ne_none, h1, h2])]
    exact latchJudged_judgeHot z s
  · intro h
    unfold rejudge
    rw [if_neg (fun hj => h (by simpa [Probe.judgeable, Option.isSome_iff_ne_none] using hj))]

/-! ## Temperatures (R129) -/

/-- A table's eight points as a list. -/
theorem vector8 (v : Vector CalPoint 8) : v.toList = [v[0], v[1], v[2], v[3], v[4], v[5], v[6], v[7]] := by
  obtain ⟨⟨l⟩, h⟩ := v
  match l, h with
  | [a, b, c, d, e, f, g, i], _ => rfl

/-- The conversion of a period meets R129. -/
theorem converts_convertPeriod (table : Vector CalPoint 8) (n : Nat) : Converts table n (convertPeriod table.toList n) := by
  rw [vector8]
  refine ⟨?_, ?_, ?_⟩
  · intro h
    simp [convertPeriod, h]
  · intro h hl
    have h0 := h 0; have h1 := h 1; have h2 := h 2; have h3 := h 3; have h4 := h 4; have h5 := h 5; have h6 := h 6
    simp only [Fin.getElem_fin, Fin.val_zero, Fin.isValue, Fin.val_one, Fin.val_two] at h0 h1 h2
    change n < table[3].period at h3
    change n < table[4].period at h4
    change n < table[5].period at h5
    change n < table[6].period at h6
    simp [convertPeriod, convertAfter, Nat.not_le.mpr h0, Nat.not_le.mpr h1, Nat.not_le.mpr h2, Nat.not_le.mpr h3,
      Nat.not_le.mpr h4, Nat.not_le.mpr h5, Nat.not_le.mpr h6, hl]
  · intro i h hl hlast
    obtain ⟨i, hi⟩ := i
    have at_ (j : Nat) (hj : j < 7) (hle : j ≤ i) : ¬table[j].period ≤ n := Nat.not_le.mpr (h ⟨j, hj⟩ hle)
    clear h
    have hs (h6 : i = 6) : ¬n ≤ table[7].period := Nat.not_le.mpr (hlast (Fin.ext h6))
    interval_cases i <;>
      simp_all [convertPeriod, convertAfter, -not_le, at_ 0 (by decide), at_ 1 (by decide), at_ 2 (by decide), at_ 3 (by decide),
        at_ 4 (by decide), at_ 5 (by decide), at_ 6 (by decide), interpolate]

/-! ## Resets -/

/-- Every reset leaves the settings, the marks, the head, the heat, the unwind and the subscriptions at their reset values. -/
theorem afterReset_values (time : LineTime) (levels : InputLevels) (slots : Vector Slot 16) (kind : ResetKind) :
    HardResetValues (State.afterReset time levels slots kind) := by
  have depths : ∀ c : Fin 16, HeadSetup.default.table[c] = 2500 * c.val := by decide
  refine ⟨by simp [State.afterReset], rfl, rfl, by simpa [State.afterReset, HeadSetup.default] using depths,
    by simp [State.afterReset], fun z => ?_, fun z => ?_, rfl, by simp [State.afterReset, NoticeBox.freshAll]⟩ <;>
    cases z <;> refine ⟨rfl, rfl, rfl, rfl, rfl, rfl⟩

end Sys2Proof.Machine
end

