-- ==== Sys2Proof/Laws/Events.lean ====
section
/-!
SUPPORT. The part's own events: the planner's conditions and the list of the events that can be taken now meet the relations of
Safety.lean that statements speak of.
-/

namespace Sys2Proof.Machine

/-! ## The planner's conditions (R41, R44, R46, R57) -/

/-- The copy being planned (R41). -/
theorem planningCopy_iff (s : State) (c : Context) (p : PlanningState) :
    planningCopy s = some (c, p) ↔ CopyPlanned s c p := by
  unfold planningCopy CopyPlanned
  rw [List.findSome?_eq_some_iff]
  constructor
  · rintro ⟨l1, x, l2, hl, hx, hn⟩
    cases hp : x.planning with
    | none => rw [hp] at hx; cases hx
    | some q =>
      rw [hp] at hx
      cases hx
      refine ⟨l1, l2, hl, hp, fun y hy => ?_⟩
      have := hn y hy
      cases hy' : y.planning with
      | none => rfl
      | some _ => rw [hy'] at this; cases this
  · rintro ⟨l1, l2, hl, hp, hn⟩
    exact ⟨l1, c, l2, hl, by rw [hp]; rfl, fun y hy => by rw [hn y hy]; rfl⟩

theorem planningCopy_none (s : State) : planningCopy s = none ↔ ∀ c ∈ s.planner.contexts, c.planning = none := by
  unfold planningCopy
  rw [List.findSome?_eq_none_iff]
  refine forall₂_congr fun c _ => ?_
  cases c.planning <;> simp

theorem copyPlanned_some (s : State) (c : Context) (p : PlanningState) (h : CopyPlanned s c p) :
    ∃ x ∈ s.planner.contexts, x.planning ≠ none := by
  obtain ⟨l1, l2, hl, hp, _⟩ := h
  exact ⟨c, by rw [hl]; simp, by rw [hp]; simp⟩

theorem nextRepeat_iff (s : State) (r : Nat) : nextRepeatLen s = some r ↔ NextRepeat s r := by
  unfold nextRepeatLen NextRepeat
  cases hc : planningCopy s with
  | none =>
    have hn := (planningCopy_none s).mp hc
    have none_ : ¬∃ c p, CopyPlanned s c p ∧ r = c.repeatLen := by
      rintro ⟨c, p, h, _⟩
      rw [(planningCopy_iff s c p).mpr h] at hc
      cases hc
    cases ho : s.orders with
    | nil =>
      constructor
      · intro h; cases h
      · rintro (h | ⟨_, o, h, ho, _⟩)
        · exact absurd h none_
        · cases ho
    | cons o rest =>
      simp only [none_, false_or, List.head?_cons, Option.some.injEq, exists_and_left, exists_eq_left', Option.map_eq_some_iff]
      constructor
      · rintro ⟨h, hh, rfl⟩
        exact ⟨hn, h, hh, rfl⟩
      · rintro ⟨_, h, hh, rfl⟩
        exact ⟨h, hh, rfl⟩
  | some cp =>
    obtain ⟨c, p⟩ := cp
    have hcp := (planningCopy_iff s c p).mp hc
    constructor
    · intro h
      exact .inl ⟨c, p, hcp, (Option.some.inj h).symm⟩
    · rintro (⟨c', p', h, rfl⟩ | ⟨h, _⟩)
      · rw [(planningCopy_iff s c' p').mpr h] at hc
        cases hc
        rfl
      · rw [(planningCopy_none s).mpr h] at hc
        cases hc

theorem listFull_iff (s : State) :
    (match nextRepeatLen s with | some r => r != 0 && decide (16 ≤ s.marks.list.length) | none => false) = true ↔
      ListFull s := by
  unfold ListFull
  cases h : nextRepeatLen s with
  | none =>
    constructor
    · intro h; cases h
    · rintro ⟨r, hr, _⟩
      rw [(nextRepeat_iff s r).mpr hr] at h
      cases h
  | some r =>
    simp only [Bool.and_eq_true, bne_iff_ne, ne_eq, decide_eq_true_eq]
    constructor
    · intro hh; exact ⟨r, (nextRepeat_iff s r).mp h, hh⟩
    · rintro ⟨r', hr, hh⟩
      rw [(nextRepeat_iff s r').mpr hr] at h
      cases h
      exact hh

theorem isSome_planningCopy (s : State) :
    (planningCopy s).isSome = true ↔ ∃ c ∈ s.planner.contexts, c.planning ≠ none := by
  have := planningCopy_none s
  cases h : planningCopy s with
  | none => simpa using this.mp h
  | some x =>
    simp only [Option.isSome_some, true_iff]
    by_contra hc
    push Not at hc
    rw [this.mpr hc] at h
    cases h

theorem hasMaterial_iff (s : State) : hasMaterial s = true ↔ Material s := by
  unfold hasMaterial Material
  rw [Bool.or_eq_true, isSome_planningCopy]
  simp

theorem drainHolds_iff (s : State) :
    ((planningCopy s).isNone && s.run.state == .draining) = true ↔ DrainHolds s := by
  unfold DrainHolds
  rw [Bool.and_eq_true, Option.isNone_iff_eq_none, planningCopy_none]
  cases s.run.state <;> simp

theorem place_eq (l : Option Nat) (n : Nat) : place l n = entryPosition l n := by cases l <;> rfl

theorem shrinkOf_eq (s : State) (c : Context) :
    shrinkOf s c = ((s.slots[c.slot].header?).map (·.shrink)).getD 0 := by
  unfold shrinkOf
  cases s.slots[c.slot].header? <;> rfl

/-- The next piece by the four cases of R46. -/
theorem nextPiece_cases (s : State) (c : Context) (p : PlanningState) :
    (MarkNext s c p ∧ nextPiece s c p = .expectation) ∨
      (¬MarkNext s c p ∧
        ((∃ st, s.slots[c.slot].steps[p.stepIndex]? = some st ∧ st.kind ≠ .flat ∧ nextPiece s c p = .fold st) ∨
          (∃ st, s.slots[c.slot].steps[p.stepIndex]? = some st ∧ st.kind = .flat ∧ nextPiece s c p = .flat st) ∨
          (s.slots[c.slot].steps[p.stepIndex]? = none ∧ nextPiece s c p = .panelEnd))) := by
  by_cases hm : MarkNext s c p
  · exact .inl ⟨hm, if_pos hm⟩
  · refine .inr ⟨hm, ?_⟩
    rw [show nextPiece s c p = _ from if_neg hm]
    cases hs : s.slots[c.slot].steps[p.stepIndex]? with
    | none => exact .inr (.inr ⟨rfl, rfl⟩)
    | some st =>
      by_cases hk : st.kind = .flat
      · exact .inr (.inl ⟨st, rfl, hk, if_pos hk⟩)
      · exact .inl ⟨st, rfl, hk, if_neg hk⟩

theorem piecePosition_eq (s : State) (c : Context) (p : PlanningState) :
    piecePosition s c p (nextPiece s c p) = none ∧ MarkNext s c p ∨
      piecePosition s c p (nextPiece s c p) = some (nextEntryAt s c p) ∧ ¬MarkNext s c p := by
  unfold nextEntryAt
  rcases nextPiece_cases s c p with ⟨hm, h⟩ | ⟨hm, ⟨st, hs, hk, h⟩ | ⟨st, hs, hk, h⟩ | ⟨hs, h⟩⟩
  · exact .inl ⟨by rw [h]; rfl, hm⟩
  all_goals
    refine .inr ⟨?_, hm⟩
    rw [h, hs]
    simp_all [piecePosition, place_eq, pieceTake, shrinkOf_eq]

theorem rangeEnd_iff (s : State) : waitsAtEnd s = true ↔ RangeEnd s := by
  unfold waitsAtEnd RangeEnd
  cases hc : planningCopy s with
  | none =>
    constructor
    · intro h; cases h
    · rintro ⟨c, p, h, _⟩
      rw [(planningCopy_iff s c p).mpr h] at hc
      cases hc
  | some cp =>
    obtain ⟨c, p⟩ := cp
    have hcp := (planningCopy_iff s c p).mp hc
    have only : ∀ c' p', CopyPlanned s c' p' → c' = c ∧ p' = p := by
      intro c' p' h
      rw [(planningCopy_iff s c' p').mpr h] at hc
      cases hc
      exact ⟨rfl, rfl⟩
    dsimp only
    rcases piecePosition_eq s c p with ⟨h, hm⟩ | ⟨h, hm⟩
    · rw [h]
      constructor
      · intro h; cases h
      · rintro ⟨c', p', hh, hn, _⟩
        obtain ⟨rfl, rfl⟩ := only _ _ hh
        exact absurd hm hn
    · rw [h]
      simp only [decide_eq_true_eq]
      constructor
      · intro hh; exact ⟨c, p, hcp, hm, hh⟩
      · rintro ⟨c', p', hh, _, hlt⟩
        obtain ⟨rfl, rfl⟩ := only _ _ hh
        exact hlt

/-- The planner condition meets R44, R46 and R57. -/
theorem plannerReports_condition (s : State) : PlannerReports s (plannerCondition s).number := by
  have h3 := hasMaterial_iff s
  have h4 := drainHolds_iff s
  have h5 := rangeEnd_iff s
  obtain ⟨full, h2⟩ : ∃ b, b = true ↔ ListFull s := ⟨_, listFull_iff s⟩
  have eq : plannerCondition s =
      if 128 ≤ s.plan.length then .planFull
      else if full = true then .listFull
      else if !hasMaterial s then .noMaterial
      else if (planningCopy s).isNone && s.run.state == .draining then .draining
      else if waitsAtEnd s then .rangeEnd
      else .planning := by
    rw [show full = _ from Bool.eq_iff_iff.mpr (h2.trans (listFull_iff s).symm)]
    rfl
  rw [eq]
  unfold PlannerReports PlannerFree
  split
  · rename_i c1
    have : ¬s.plan.length < 128 := by omega
    simp [this, PlannerCondition.number]
  rename_i c1
  have l1 : s.plan.length < 128 := by omega
  simp only [c1, l1, false_imp_iff, true_imp_iff, true_and]
  split
  · rename_i h
    have c2 := h2.mp h
    simp [c2, PlannerCondition.number]
  rename_i h
  have c2 : ¬ListFull s := fun c => h (h2.mpr c)
  split
  · rename_i h
    have c3 : ¬Material s := fun c => by rw [h3.mpr c] at h; cases h
    simp [c2, c3, PlannerCondition.number]
  rename_i h
  have c3 : Material s := h3.mp (by simpa using h)
  split
  · rename_i h
    simp [c2, c3, h4.mp h, PlannerCondition.number]
  rename_i h
  have c4 : ¬DrainHolds s := fun c => h (h4.mpr c)
  split
  · rename_i h
    simp [c2, c3, c4, h5.mp h, PlannerCondition.number]
  rename_i h
  have c5 : ¬RangeEnd s := fun c => h (h5.mpr c)
  simp [c2, c3, c4, c5, PlannerCondition.number]

/-- The planner is free exactly where its condition is PLANNING (R44, R46, R57). -/
theorem plannerFree_iff (s : State) : plannerCondition s = .planning ↔ PlannerFree s := by
  obtain ⟨h1, h2, h3, h4, h5, h6⟩ := plannerReports_condition s
  have num : ∀ c : PlannerCondition, c = .planning ↔ c.number = 0 := fun c => by cases c <;> decide
  rw [num]
  constructor
  · intro h
    rw [h] at h1 h2 h3 h4 h5
    unfold PlannerFree
    by_contra hc
    by_cases c1 : 128 ≤ s.plan.length
    · exact absurd (h1 c1) (by decide)
    · have l1 : s.plan.length < 128 := by omega
      by_cases c2 : ListFull s
      · exact absurd (h2 l1 c2) (by decide)
      by_cases c3 : Material s
      · by_cases c4 : DrainHolds s
        · exact absurd (h4 l1 c2 c3 c4) (by decide)
        by_cases c5 : RangeEnd s
        · exact absurd (h5 l1 c2 c3 c4 c5) (by decide)
        exact hc ⟨l1, c2, c3, c4, c5⟩
      · exact absurd (h3 l1 c2 c3) (by decide)
  · exact h6

/-! ## The part's own events (R14, R181) -/

theorem mem_dueEvent (b : Bool) (i e : Instr) : e ∈ dueEvent b i ↔ e = i ∧ b = true := by
  unfold dueEvent
  cases b <;> simp

theorem mem_plannerEvents (s : State) (e : Instr) :
    e ∈ plannerEvents s ↔
      (e = .plannerBeginCopy ∧ PlannerFree s ∧ (∀ c ∈ s.planner.contexts, c.planning = none) ∧
        ∃ o h, s.orders.head? = some o ∧ s.slots[o.slot].header? = some h) ∨
      (PlannerFree s ∧
        ∃ c p, CopyPlanned s c p ∧
          ((e = .plannerAppendExpectation ∧ MarkNext s c p) ∨
            (¬MarkNext s c p ∧
              ((e = .plannerAppendFold ∧ ∃ st, s.slots[c.slot].steps[p.stepIndex]? = some st ∧ st.kind ≠ .flat) ∨
                (e = .plannerAppendFlat ∧ ∃ st, s.slots[c.slot].steps[p.stepIndex]? = some st ∧ st.kind = .flat) ∨
                (e = .plannerAppendPanelEnd ∧ s.slots[c.slot].steps[p.stepIndex]? = none))))) := by
  unfold plannerEvents plannerBegin plannerPiece
  by_cases hf : PlannerFree s
  · have hp := (plannerFree_iff s).mpr hf
    simp only [hp, true_and, hf, if_true]
    cases hc : planningCopy s with
    | none =>
      have hn := (planningCopy_none s).mp hc
      have none_ : ∀ c p, ¬CopyPlanned s c p := by
        intro c p h
        rw [(planningCopy_iff s c p).mpr h] at hc
        cases hc
      simp only [Option.isNone_none, if_true, none_, false_and, exists_false, or_false]
      cases ho : s.orders with
      | nil => simp
      | cons o rest =>
        simp only [List.head?_cons, Option.some.injEq, exists_and_left, exists_eq_left']
        generalize s.slots[o.slot].header? = x
        cases x <;> simp
        exact fun _ => hn
    | some cp =>
      obtain ⟨c, p⟩ := cp
      have hcp := (planningCopy_iff s c p).mp hc
      have only : ∀ c' p', CopyPlanned s c' p' ↔ c' = c ∧ p' = p := by
        intro c' p'
        constructor
        · intro h
          rw [(planningCopy_iff s c' p').mpr h] at hc
          cases hc
          exact ⟨rfl, rfl⟩
        · rintro ⟨rfl, rfl⟩; exact hcp
      have some_ : ¬∀ c ∈ s.planner.contexts, c.planning = none := by
        intro h
        rw [(planningCopy_none s).mpr h] at hc
        cases hc
      simp only [Option.isNone_some, Bool.false_eq_true, if_false, some_, false_and, and_false, false_or, only]
      have : ∀ P : Context → PlanningState → Prop, (∃ c' p', (c' = c ∧ p' = p) ∧ P c' p') ↔ P c p := by
        intro P
        constructor
        · rintro ⟨_, _, ⟨rfl, rfl⟩, h⟩; exact h
        · intro h; exact ⟨c, p, ⟨rfl, rfl⟩, h⟩
      rw [this (fun c p => _ ∨ _)]
      rcases nextPiece_cases s c p with ⟨hm, h⟩ | ⟨hm, ⟨st, hs, hk, h⟩ | ⟨st, hs, hk, h⟩ | ⟨hs, h⟩⟩ <;>
        simp_all
  · have hp : plannerCondition s ≠ .planning := fun h => hf ((plannerFree_iff s).mp h)
    simp [hp, hf]

theorem mem_grantEvents (s : State) (e : Instr) :
    e ∈ grantEvents s ↔
      ∃ l r, grantee s = some l ∧ (s.links.get l).requests.head? = some r ∧
        ((∃ c, requestOf r.code.toNat = some c ∧ e = c.command) ∨
          (requestOf r.code.toNat = none ∧ e = .unassignedRequestCode)) := by
  unfold grantEvents
  cases hg : grantee s with
  | none => simp
  | some l =>
    cases hq : (s.links.get l).requests with
    | nil => simp [hq]
    | cons r rest =>
      simp only [hq, commandOfCode, List.mem_singleton, Option.some.injEq, exists_and_left, exists_eq_left', List.head?_cons]
      cases hr : requestOf r.code.toNat <;> simp

theorem mem_zoneEvents (s : State) (z : ZoneId) (e : Instr) :
    e ∈ zoneEvents s z ↔
      (e = .probeStalenessExpiry z ∧ ∃ t, (s.heat.probes.get z).lastEdge = some t ∧ 250000 ≤ elapsed s.lineTime t) ∨
      (let w := s.heat.zones.get z
       (e = .valvePeriodStart z ∧ w.phase = .rest ∧ w.period.vMs * 1000 ≤ elapsed s.lineTime w.period.start) ∨
        (e = .supplyEnd z ∧ w.phase = .supply ∧ w.period.supplyUs ≤ elapsed s.lineTime w.period.start) ∨
        (e = .pauseEnd z ∧ w.phase = .pause ∧
          w.period.supplyUs + w.period.gMs * 1000 ≤ elapsed s.lineTime w.period.start) ∨
        (e = .ventEnd z ∧ w.phase = .vent ∧
          (w.period.vMs - w.period.gMs) * 1000 ≤ elapsed s.lineTime w.period.start)) := by
  have valve : ∀ ph, valveDue ph z s = true ↔
      (s.heat.zones.get z).phase = ph ∧
        (s.heat.zones.get z).boundary ≤ elapsed s.lineTime (s.heat.zones.get z).period.start := by
    intro ph
    simp [valveDue, Zone.reached]
  have stale : stalenessDue z s = true ↔
      ∃ t, (s.heat.probes.get z).lastEdge = some t ∧ 250000 ≤ elapsed s.lineTime t := by
    unfold stalenessDue
    cases (s.heat.probes.get z).lastEdge <;> simp
  simp only [zoneEvents, List.mem_append, mem_dueEvent, valve, stale, or_assoc]
  unfold Zone.boundary
  cases (s.heat.zones.get z).phase <;> simp

/-- The part's own events that can be taken now are those of R14, R44, R46 and R181. -/
theorem mem_internalEvents (s : State) (e : Instr) : e ∈ internalEvents s ↔ OwnEvent s e := by
  unfold internalEvents OwnEvent
  cases hr : s.inReset with
  | true => simp
  | false =>
    have z4 : ∀ P : ZoneId → Prop, (∃ z, P z) ↔ P .z1 ∨ P .z2 ∨ P .z3 ∨ P .z4 := by
      intro P
      constructor
      · rintro ⟨z, h⟩
        cases z
        · exact .inl h
        · exact .inr (.inl h)
        · exact .inr (.inr (.inl h))
        · exact .inr (.inr (.inr h))
      · rintro (h | h | h | h)
        exacts [⟨_, h⟩, ⟨_, h⟩, ⟨_, h⟩, ⟨_, h⟩]
    have opening : openingGapDue s = true ↔ ∃ g, s.head.cycle = .opening g ∧ g.dur ≤ elapsed s.lineTime g.start := by
      unfold openingGapDue
      cases s.head.cycle <;> simp [Timer.expired]
    have dwell : dwellDue s = true ↔ ∃ g, s.head.cycle = .strike g ∧ g.dur ≤ elapsed s.lineTime g.start := by
      unfold dwellDue
      cases s.head.cycle <;> simp [Timer.expired]
    have closing : closingGapDue s = true ↔ ∃ g, s.head.cycle = .closing g ∧ g.dur ≤ elapsed s.lineTime g.start := by
      unfold closingGapDue
      cases s.head.cycle <;> simp [Timer.expired]
    have clamp : clampGapDue s = true ↔ s.head.cycle = .idle ∧ s.run.causes.safe = false ∧ s.head.clamp = false ∧
        s.head.bladeGap.dur ≤ elapsed s.lineTime s.head.bladeGap.start := by
      unfold clampGapDue clampDue
      cases s.head.cycle <;> simp [Timer.expired, BladeCycle.isIdle, and_comm, and_left_comm]
    have cut : cutDue s = true ↔ ∃ c, s.exitUnit.cut = some c ∧ c.dur ≤ elapsed s.lineTime c.start := by
      unfold cutDue
      cases s.exitUnit.cut <;> simp [Timer.expired]
    have overflow : overflowDue s = true ↔ ∃ i, s.unwind.interval = some i ∧ 4194303 < i.n := by
      unfold overflowDue
      cases s.unwind.interval with
      | none => simp
      | some i =>
        simp only [Option.some.injEq, exists_eq_left']
        exact decide_eq_true_iff
    have paste : pasteDue s = true ↔ ∃ side p, s.unwind.paste = some (side, p) ∧ p.dur ≤ elapsed s.lineTime p.start := by
      unfold pasteDue
      rcases s.unwind.paste with _ | ⟨i, p⟩ <;> simp [Timer.expired]
    have knife : knifeDue s = true ↔ ∃ k, s.unwind.knife = some k ∧ k.dur ≤ elapsed s.lineTime k.start := by
      unfold knifeDue
      cases s.unwind.knife <;> simp [Timer.expired]
    have gate : speedGateDue s = true ↔ 10000 ≤ elapsed s.lineTime s.feed.gateStart := by simp [speedGateDue]
    have fs : feedStandstillDue s = true ↔
        s.feed.standstill = false ∧ s.tracking.standstillMs * 1000 ≤ elapsed s.lineTime s.feed.lastTick := by
      simp [feedStandstillDue, standstillReached]
    have cs : carrierStandstillDue s = true ↔
        s.carrier.standstill = false ∧ s.tracking.standstillMs * 1000 ≤ elapsed s.lineTime s.carrier.lastTick := by
      simp [carrierStandstillDue, standstillReached]
    have dose : doseDue s = true ↔ 100000 ≤ elapsed s.lineTime s.heat.lastDose := by simp [doseDue]
    simp only [Bool.false_eq_true, if_false, true_and, List.mem_append, mem_dueEvent, mem_zoneEvents, mem_plannerEvents,
      mem_grantEvents, gate, fs, cs, opening, dwell, closing, clamp, cut, overflow, paste, knife, dose, z4]
    simp only [or_assoc]

/-- Every event of the part's own but a grant, in the order in which they are listed. -/
def ownList : List Instr :=
  let zone (z : ZoneId) : List Instr := [.probeStalenessExpiry z, .valvePeriodStart z, .supplyEnd z, .pauseEnd z, .ventEnd z]
  [.speedGateEnd, .feedStandstillExpiry, .carrierStandstillExpiry, .openingGapEnd, .dwellEnd, .closingGapEnd,
    .clampGapExpiry, .cutDwellEnd] ++ zone .z1 ++ zone .z2 ++ zone .z3 ++ zone .z4 ++
    [.doseTick, .intervalOverflow, .pasteDwellExpiry, .knifeDwellExpiry] ++
    [.plannerBeginCopy, .plannerAppendExpectation, .plannerAppendFold, .plannerAppendFlat, .plannerAppendPanelEnd]

theorem dueEvent_sublist (b : Bool) (i : Instr) : (dueEvent b i).Sublist [i] := by
  cases b
  · exact List.nil_sublist _
  · exact List.Sublist.refl _

theorem zoneEvents_sublist (s : State) (z : ZoneId) :
    (zoneEvents s z).Sublist
      [.probeStalenessExpiry z, .valvePeriodStart z, .supplyEnd z, .pauseEnd z, .ventEnd z] :=
  ((((dueEvent_sublist _ _).append (dueEvent_sublist _ _)).append (dueEvent_sublist _ _)).append (dueEvent_sublist _ _)).append
    (dueEvent_sublist _ _)

theorem plannerEvents_sublist (s : State) :
    (plannerEvents s).Sublist
      [.plannerBeginCopy, .plannerAppendExpectation, .plannerAppendFold, .plannerAppendFlat, .plannerAppendPanelEnd] := by
  unfold plannerEvents
  repeat' split
  all_goals decide

theorem internalEvents_sublist (s : State) : (internalEvents s).Sublist (ownList ++ grantEvents s) := by
  unfold internalEvents
  split
  · exact List.nil_sublist _
  · have d := dueEvent_sublist
    have zs := zoneEvents_sublist s
    have fixed := (((((((d (speedGateDue s) .speedGateEnd).append (d (feedStandstillDue s) .feedStandstillExpiry)).append
      (d (carrierStandstillDue s) .carrierStandstillExpiry)).append (d (openingGapDue s) .openingGapEnd)).append
      (d (dwellDue s) .dwellEnd)).append (d (closingGapDue s) .closingGapEnd)).append
      (d (clampGapDue s) .clampGapExpiry)).append (d (cutDue s) .cutDwellEnd)
    have all := (((((((((fixed.append (zs .z1)).append (zs .z2)).append (zs .z3)).append (zs .z4)).append
      (d (doseDue s) .doseTick)).append (d (overflowDue s) .intervalOverflow)).append
      (d (pasteDue s) .pasteDwellExpiry)).append (d (knifeDue s) .knifeDwellExpiry)).append (plannerEvents_sublist s))
    exact all.append (List.Sublist.refl _)

/-- No event of the part's own is listed twice. -/
theorem nodup_internalEvents (s : State) : (internalEvents s).Nodup := by
  refine (internalEvents_sublist s).nodup (List.nodup_append.mpr ⟨by decide, ?_, ?_⟩)
  · unfold grantEvents
    repeat' split
    all_goals simp
  · rintro a ha b hb rfl
    obtain ⟨l, r, _, _, h⟩ := (mem_grantEvents s a).mp hb
    have commands : ∀ c : RequestCode, c.command ∉ ownList := by
      intro c
      cases c <;> decide
    rcases h with ⟨c, _, rfl⟩ | ⟨_, rfl⟩
    · exact commands c ha
    · exact absurd ha (by decide)

end Sys2Proof.Machine
end

