-- ==== Sys2Proof/WellFormed.lean ====
section
/-!
DEFINITION. Which commands are well formed. The operand types already hold zones, sides, links and levels to their
ranges; what is left is that the bytes of a transaction are those of its row (R177 to R179).
-/

namespace Sys2Proof

/-- The bytes up to the completion of a REQUEST_FRAME: a whole frame and no byte behind it (R178), or a byte 0 that is no
operation (R177). -/
def frameComplete (bytes : List Byte) : Bool :=
  match frameShape bytes with
  | .complete _ true _ => bytes.length == 2
  | .complete _ false args => bytes.length == args.length + 2
  | .noOperation => bytes.length == 1
  | .noByte => false
  | .notRequest => false
  | .cutShort _ => false

/-- TRUNCATED is a negation of xSEL_n while byte 0 or a request frame is incomplete (R179). -/
def frameCut (bytes : List Byte) : Bool :=
  match frameShape bytes with
  | .noByte => true
  | .cutShort _ => true
  | .complete _ _ _ => false
  | .noOperation => false
  | .notRequest => false

/-- A command is well formed when its operands can be those of its row. -/
def Instr.wellFormed : Instr → Bool
  | .statusPoll ⟨_, .completes bytes⟩ => bytes == [0x00#8]
  | .fetch _ (.completes bytes) => bytes == [0x80#8]
  | .requestFrame _ (.completes bytes) => frameComplete bytes
  | .truncated _ bytes => frameCut bytes
  | .statusPoll ⟨_, .begins⟩ | .fetch _ .begins | .requestFrame _ .begins => true
  | .statusPoll ⟨_, .ends _⟩ | .fetch _ (.ends _) | .requestFrame _ (.ends _) => true
  | .powerOnReset _ | .hardReset | .hardResetEnd _ | .feedEncoderChange _ _ | .speedGateEnd
  | .feedStandstillExpiry | .carrierTick | .carrierStandstillExpiry | .markLeadingEdge | .markTrailingEdge
  | .plannerBeginCopy | .plannerAppendExpectation | .plannerAppendFold | .plannerAppendFlat
  | .plannerAppendPanelEnd | .openingGapEnd | .dwellEnd | .closingGapEnd | .clampGapExpiry
  | .safeStopAssertion | .safeStopNegation | .cutDwellEnd | .probeRisingEdge _ | .probeStalenessExpiry _
  | .valvePeriodStart _ | .supplyEnd _ | .pauseEnd _ | .ventEnd _ | .doseTick | .revolutionPulse _
  | .intervalOverflow | .pasteDwellExpiry | .knifeDwellExpiry
  | .run | .drain | .stop | .halt | .resume | .clearLine | .setTracking | .setHead | .setCalibration
  | .setHeat | .setZoneDuty | .setLinks | .openPattern | .addSteps | .closePattern | .discardPattern
  | .queuePanel | .cancelPanel | .loadRoll | .rollReady | .rollWithdraw | .rollAssign | .spliceNow
  | .setUnwind | .takeReport | .readTracking | .readPattern | .readQueue | .readPlan | .readMarks
  | .readHead | .readRun | .readMap | .readHeat | .readUnwind | .readStatus | .readFault | .readTime
  | .subscribe | .takeNotice | .unassignedRequestCode | .linkSelectNegated _ => true

end Sys2Proof
end

