-- ==== Sys2Proof/Tests/Slice0.lean ====
section
/-!
SUPPORT. The tests: ill-formed commands refused by WellFormed, the manual's worked examples (the expected values are the
manual's, its chapter in each docstring), and for every statement a witness: a state and operands that meet its hypotheses.
-/

open Sys2Proof Sys2Proof.Machine

namespace Sys2Proof.Tests

/-! ## WellFormed and Decode -/

/-- R178: a frame that announces one argument byte and carries none is no completed request frame. -/
theorem test_ill_request_short : Instr.wellFormed (.requestFrame .line (.completes [0x0C, 1])) = false := by decide

/-- R178: a byte behind the last argument is not part of the completed frame. -/
theorem test_ill_request_long : Instr.wellFormed (.requestFrame .line (.completes [0x0C, 1, 9, 8])) = false ∧
    Instr.wellFormed (.requestFrame .line (.completes [0x11, 61, 7])) = false ∧
    Instr.wellFormed (.requestFrame .line (.completes [0x40, 0])) = false := by decide

/-- R177: a status poll's byte is no request frame. -/
theorem test_ill_request_poll : Instr.wellFormed (.requestFrame .line (.completes [0x00])) = false := by decide

/-- R177: byte 0 of a status poll is 0x00, of a fetch 0x80. -/
theorem test_ill_byte_zero : Instr.wellFormed (.statusPoll ⟨.line, .completes [0x80]⟩) = false ∧
    Instr.wellFormed (.fetch .line (.completes [0x00])) = false := by decide

/-- R179: a whole frame is not a truncated transaction. -/
theorem test_ill_truncated_whole : Instr.wellFormed (.truncated .unwind [0x01, 0]) = false := by decide

/-- R179: byte 0 not received, or the arguments not complete. -/
theorem test_well_truncated : Instr.wellFormed (.truncated .line []) = true ∧
    Instr.wellFormed (.truncated .line [0x0C, 1]) = true := by decide

/-- R178: a length byte above 60 completes the frame at once, without arguments and over-length; later bytes are ignored. -/
theorem test_frame_over_length : frameShape [0x11, 61, 7] = .complete 0x11 true [] ∧
    frameShape [0x0C, 1, 9, 8] = .complete 0x0C false [9] := by decide

/-- R177: a byte 0 of 0x40 or 0x81 is no operation, one of 0x80 a fetch. -/
theorem test_frame_no_operation : frameShape [0x40] = .noOperation ∧ frameShape [0x81, 1] = .noOperation ∧
    frameShape [0x80] = .notRequest := by decide

/-- 12.2: the argument lengths of an ADD_STEPS of 1 to 8 steps. -/
theorem test_add_steps_lengths : (List.range 8).map (fun n => stepsLength (n + 1)) = [8, 16, 23, 30, 38, 45, 53, 60] := by
  decide

/-- spec/opcode_table.json gives no row bits. -/
theorem test_no_word_decodes : decodeTableWord 16 1 = none := by decide

/-! ## Worked examples of the manual -/

/-- R1: (0,0) to (1,0) is a forward tick, (0,0) to (0,1) a reverse one, and a change of both channels none. -/
theorem test_encoder : decodeTick false false true false = some .forward ∧
    decodeTick false false false true = some .reverse ∧ decodeTick true false false true = none := by decide

/-- 8.2: with the default table a period of 271 µs is 119.8 °C, one of 245 µs 136.8 °C. -/
theorem test_temperature : convertPeriod CalPoint.defaultTable.toList 271 = (1198, false) ∧
    convertPeriod CalPoint.defaultTable.toList 245 = (1368, false) := by decide

/-- R145: T = 1,198 over a base of 1,000 adds 198 in each tick. -/
theorem test_dose : raisedDose 0 1198 1000 = 198 ∧ raisedDose 16777200 1198 1000 = 16777215 := by decide

/-- R51: the stroke codes of the default table. -/
theorem test_stroke_codes : strokeCode HeadSetup.default.table 0 = 0 ∧ strokeCode HeadSetup.default.table 8000 = 4 ∧
    strokeCode HeadSetup.default.table 37501 = 15 ∧ strokeClamps HeadSetup.default.table 37501 = true := by decide

/-- 9.3: an interval of 94,248 ticks of 10,000 nm gives a candidate diameter of 300,001 µm. -/
theorem test_candidate : candidateDiameter 94248 10000 = 300001 := by decide

/-- 3.5: the worked take of 2,862 ticks, the ninth of 2,863, the flat run's of 2,044, and the repeat ticks of 24,170. -/
theorem test_takes :
    takeOf ⟨.knife, 12000, 8000, 8000, 9, false⟩ 150 66000 10000 0 = (2862, 796800000000) ∧
      takeOf ⟨.knife, 12000, 8000, 8000, 9, false⟩ 150 66000 10000 6374400000000 = (2863, 617600000000) ∧
      takeOf ⟨.flat, 20000, 0, 0, 1, true⟩ 150 66000 10000 617600000000 = (2044, 3059200000000) ∧
      repeatTicksOf 240000 66000 10000 = 24170 := by decide

/-- 4.4: the measured factor of the worked sequence. -/
theorem test_factor :
    measuredFactor (some ⟨400000, 212, 0⟩) ⟨424170, 300, 212, 1, 240000⟩ 424133 10000 = some 65899 := by decide

/-- 5.6: folds 2,862 ticks apart under the default setup give a ceiling of 130,090 ticks a second. -/
theorem test_ceiling : ceilingOf [600000, 602862, 605724, 608586] HeadSetup.default = 130090 := by decide

/-- 9.3, 9.9: the worked remaining lengths. -/
theorem test_lengths : remainingLength 90000 400 152801 = 29939666 ∧ remainingLength 90000 400 600000 = 690954092 := by
  decide

/-- 12.1: the status byte of a link with nothing queued, four credits and nothing pending. -/
theorem test_status_byte : statusOf State.reset .line = 0x20 := by decide

/-- 12.2: a response frame's length byte counts the request code, the result and the data. -/
theorem test_response_frame : Response.frame ⟨0x02, .granted, [2]⟩ = [3, 0x02, 0, 2] := by decide

/-- R94, 12.4: the halt-cause set with OPERATOR and MAP_FULL in it. -/
theorem test_cause_byte : ((CauseSet.none.add .operator).add .mapFull).bits = 0x12 := by decide

/-! ## States for witnesses -/

/-- The state with one request queued on a link. -/
def asked (l : Link) (code : Byte) (args : List Byte) (s : State) : State :=
  { s with links := s.links.set l { s.links.get l with requests := [⟨code, false, args⟩] } }

/-- On a block out of reset whose queues are empty, the request asked is the one taken next. -/
theorem taking_asked (c : RequestCode) (l : Link) (code : Byte) (args : List Byte) (s : State)
    (hr : s.inReset = false) (hq : ∀ m : Link, (s.links.get m).requests = [])
    (h : (requestOf code.toNat = some c ∧ c.acceptedOn l = true) ∧ c.lengthOk args.length = true) :
    Taking c l ⟨code, false, args⟩ (asked l code args s) := by
  have h1 := hq .line
  have h2 := hq .pattern
  have h3 := hq .unwind
  simp only [PerLink.get] at h1 h2 h3
  refine ⟨hr, ?_, ?_, h.1.1, h.1.2, rfl, h.2⟩
  · cases l
    · by_cases hs : s.starvation ≤ s.links.line.waitCount <;>
        simp [grantee, asked, fixedOrder, PerLink.get, PerLink.set, h2, h3, hs]
    · by_cases hs : s.starvation ≤ s.links.pattern.waitCount <;>
        simp [grantee, asked, fixedOrder, PerLink.get, PerLink.set, h1, h3, hs]
    · by_cases hs : s.starvation ≤ s.links.unwind.waitCount <;>
        simp [grantee, asked, fixedOrder, PerLink.get, PerLink.set, h1, h2, hs]
  · cases l <;> rfl

/-- The state in a run state. -/
def inRun (r : RunState) (s : State) : State := { s with run := { s.run with state := r } }

/-- HALTED with one cause. -/
def haltedBy (c : Cause) (s : State) : State := { s with run := { s.run with state := .halted, causes := CauseSet.none.add c } }

/-- The power-on state at a line time. -/
def atTime (t : LineTime) : State := { State.reset with lineTime := t }

/-- A header without repeat, and a step of each of two kinds. -/
def header0 : Header := ⟨77, 0, 0, 0, 20, 50, 5000, 1000⟩
/-- A header with repeat. -/
def header1 : Header := ⟨77, 100000, 0, 50, 20, 50, 5000, 1000⟩
/-- A pleat step. -/
def pleat : PatternStep := ⟨.knife, 1000, 800, 900, 2, false⟩
/-- A flat step. -/
def flatRun : PatternStep := ⟨.flat, 5000, 0, 0, 1, true⟩

/-- A slot 0 with contents. -/
def withSlot (sl : Slot) (s : State) : State := { s with slots := s.slots.set 0 sl }

/-- A context of slot 0 that is being planned. -/
def planningContext (h : Header) (p : PlanningState) : Context :=
  ⟨0, 5, 0, h.doseMin, h.doseMax, h.baseTemp, h.lagLimit, h.window, h.repeatLen, 100, 65536, PanelFlags.none, false, some p⟩

/-- A context whose planning has ended. -/
def plannedContext : Context := { planningContext header0 ⟨0, 0, 0, 0, 0⟩ with planning := none }

/-- A copy of slot 0 being planned, the cursor at 10. -/
def planningState (h : Header) (steps : List PatternStep) (p : PlanningState) : State :=
  { withSlot (.ready h steps 1) State.reset with
    planner := ⟨some 10, some 5, 1, [planningContext h p]⟩, plan := [⟨.panelStart, 5, 0⟩] }

/-- A segment. -/
def aSegment (trailing : Option Nat) : Segment :=
  ⟨0, 5, 0, 0, trailing, 50, 5000, 1000, 20, 0, 0, 0, 0, PanelFlags.none⟩

/-- A roll record in a state. -/
def aRoll (p : RollPhase) (len : Nat) : RollRecord := ⟨p, 50000, 500, 600000, 600000, len, false, 0⟩

/-- Roll records on the two sides. -/
def withRolls (a b : Option RollRecord) (s : State) : State := { s with unwind := { s.unwind with rolls := ⟨a, b⟩ } }

/-- A splice record. -/
def withSplice (sp : Splice) (s : State) : State := { s with unwind := { s.unwind with splice := sp } }

/-- An open expectation at 100 with window 10, of the panel 0. -/
def expectation (pos index : Nat) : Expectation := ⟨pos, 10, 0, index, 100000⟩

/-- A mark of a width being measured at the sensor, the fabric at 0, So 5,000. -/
def measuring (width : Nat) (spoiled : Option SpoilReason) (list : List Expectation) : State :=
  { State.reset with
    levels := { State.reset.levels with mark := true }
    marks := { State.reset.marks with measurement := some ⟨0, 5000, width, spoiled⟩, list := list } }

/-- 4.4, the worked sequence: the mark with error -37 moves FOLD 7 behind the fabric, and it fires at once. -/
def shiftState : State :=
  { inRun .running State.reset with
    feed := { State.reset.feed with position := 420023 }
    tracking := { State.reset.tracking with markOffset := 4200 }
    levels := { State.reset.levels with mark := true }
    plan := [⟨.fold 4 4, 420034, 212⟩, ⟨.fold 4 4, 422896, 212⟩, ⟨.panelEnd, 427803, 212⟩]
    planner := { State.reset.planner with cursor := some 452045, lastAppended := some 452045 }
    map := { State.reset.map with segments := [{ aSegment none with serial := 212, lagLimit := 400 }] }
    marks :=
      { State.reset.marks with
        measurement := some ⟨419933, 424133, 90, none⟩, k := 66000, last := some ⟨400000, 212, 0⟩
        list := [⟨424170, 300, 212, 1, 240000⟩, ⟨427803, 300, 213, 0, 240000⟩] } }

/-- 4.4: what the worked sequence gives after the accept. -/
theorem test_shift :
    (match exec .markTrailingEdge shiftState with
      | .next t =>
        decide
          (t.plan.map (·.position) = [422859, 427766] ∧ t.marks.list.map (·.position) = [427766] ∧ t.marks.k = 65899 ∧
            t.marks.last = none ∧ t.planner.cursor = some 452008 ∧ t.head.lastFired = some 419997 ∧
            t.map.segments.map (fun g => (g.fired, g.late)) = [(1, 0)])
      | _ => false) = true := by decide

/-- R82: two folds missed in one event at rest: the latch is refreshed after each, so it ends with the codes of the second. -/
theorem test_latch_after_every_consumption :
    let t := headEvent
      { State.reset with feed := { State.reset.feed with position := 9 }, plan := [⟨.fold 4 5, 7, 0⟩, ⟨.fold 6 7, 8, 0⟩] }
    t.plan = [] ∧ t.head.latchW = 6 ∧ t.head.latchH = 7 ∧ t.head.strokeW = 6 := by decide

/-! ## Witnesses: the step and the resets -/

/-- StepRunsFrontCommand: a command waits. -/
theorem test_witness_stepRunsFrontCommand :
    ({ State.reset with pending := [.carrierTick, .halt] } : State).pending = .carrierTick :: [.halt] := rfl

/-- IdleStep: none due, one due, two due. -/
theorem test_witness_idleStep :
    ((atTime 1999).pending = [] ∧ ∀ e, ¬OwnEvent (atTime 1999) e) ∧
      ((atTime 2000).pending = [] ∧ OwnEvent (atTime 2000) .clampGapExpiry ∧
        ∀ f, OwnEvent (atTime 2000) f → f = .clampGapExpiry) ∧
      ((atTime 10000).pending = [] ∧ OwnEvent (atTime 10000) .speedGateEnd ∧ OwnEvent (atTime 10000) .clampGapExpiry ∧
        Instr.speedGateEnd ≠ .clampGapExpiry) := by
  simp only [← mem_internalEvents]
  rw [show internalEvents (atTime 1999) = [] by decide, show internalEvents (atTime 2000) = [.clampGapExpiry] by decide,
    show internalEvents (atTime 10000) = [.speedGateEnd, .clampGapExpiry] by decide]
  exact ⟨⟨rfl, by simp⟩, ⟨rfl, by simp, by simp⟩, rfl, by simp, by simp, by simp⟩

/-- IdleStep: the planner's five events, and a grant of an assigned and of an unassigned code, each in a state that has it due. -/
theorem test_own_events :
    OwnEvent { withSlot (.ready header1 [pleat] 1) State.reset with orders := [⟨0, 5, 1, 0⟩] } .plannerBeginCopy ∧
      OwnEvent (planningState header1 [pleat] ⟨0, 1, 0, 9, 0⟩) .plannerAppendExpectation ∧
      OwnEvent (planningState header1 [pleat] ⟨0, 1, 0, 10, 0⟩) .plannerAppendFold ∧
      OwnEvent (planningState header0 [flatRun] ⟨0, 0, 0, 10, 0⟩) .plannerAppendFlat ∧
      OwnEvent (planningState header0 [flatRun] ⟨1, 0, 0, 10, 0⟩) .plannerAppendPanelEnd ∧
      OwnEvent (asked .line 0x34 [] State.reset) .readTime ∧ OwnEvent (asked .line 0x0D [] State.reset) .unassignedRequestCode := by
  simp only [← mem_internalEvents]
  decide

/-- PowerOnStore, PowerOnValues: SAFE_STOP_n negated. -/
theorem test_witness_powerOn : InputLevels.quiet.safeStop = false := by decide

/-- HardResetStore: a READY slot and one that is not. -/
theorem test_witness_hardResetStore :
    (withSlot (.ready header0 [pleat] 3) State.reset).inReset = false ∧
      (withSlot (.ready header0 [pleat] 3) State.reset).slots[0] = .ready header0 [pleat] 3 ∧
      (withSlot (.ready header0 [pleat] 3) State.reset).slots[1].number ≠ 2 := by decide

/-- HardResetHolds, HardResetEnd: RESET_n asserted, and a command that does not end the reset. -/
theorem test_witness_hardReset :
    State.reset.inReset = false ∧ ({ State.reset with inReset := true } : State).inReset = true ∧
      (∀ v, Instr.halt ≠ .powerOnReset v) ∧ ∀ v, Instr.halt ≠ .hardResetEnd v :=
  ⟨rfl, rfl, nofun, nofun⟩

/-- SafeSampledAtResetEnd: both commands. -/
theorem test_witness_safeSampled :
    let v : InputLevels := { InputLevels.quiet with safeStop := true }
    let r : State := { State.reset with inReset := true }
    v.safeStop = true ∧ (Instr.powerOnReset v = .powerOnReset v ∨ (Instr.powerOnReset v = .hardResetEnd v ∧ r.inReset = true)) ∧
      (Instr.hardResetEnd v = .powerOnReset v ∨ (Instr.hardResetEnd v = .hardResetEnd v ∧ r.inReset = true)) := by decide

/-! ## Witnesses: tracking -/

/-- EncoderTicks: the state kept, both channels changed, and a row of the table in each direction; an open interval. -/
theorem test_witness_encoderTicks :
    (⟨4194303, false⟩ : RevInterval).n ≤ 4194303 ∧
    State.reset.inReset = false ∧ (false = State.reset.levels.feedA ∧ false = State.reset.levels.feedB) ∧
      (true ≠ State.reset.levels.feedA ∧ true ≠ State.reset.levels.feedB) ∧
      ((State.reset.levels.feedA, State.reset.levels.feedB), (true, false), Direction.forward) ∈ encoderTable ∧
      ((State.reset.levels.feedA, State.reset.levels.feedB), (false, true), Direction.reverse) ∈ encoderTable := by decide

/-- A state with a feed position and an excursion. -/
def atFeed (r : RunState) (pos excursion : Nat) : State :=
  { inRun r State.reset with feed := { State.reset.feed with position := pos, excursion := excursion } }

/-- FeedCauses: a forward tick short of the end of the range, with an excursion of 0 and of 3. -/
theorem test_witness_feedCauses_forward :
    ∀ n ∈ [0, 3], ForwardTick true false (atFeed .running 7 n) ∧ producing (atFeed .running 7 n) = true ∧
      NoEntryReached ((atFeed .running 7 n).feed.position + 1) (atFeed .running 7 n).plan := by
  unfold ForwardTick NoEntryReached
  decide

/-- FeedCauses: the tolerance of 200 passed and just not passed; at rest; the two forward ticks at the end of the range. -/
theorem test_witness_feedCauses :
    (let s := atFeed .running 0 200
     producing s = true ∧ s.tracking.reverseTolerance < s.feed.excursion + 1 ∧ s.run.causes.reverse = false) ∧
    (let s := atFeed .draining 7 199
     producing s = true ∧ s.feed.excursion + 1 ≤ s.tracking.reverseTolerance ∧
       ∀ e ∈ s.plan.head?, s.feed.position < e.position) ∧
    (let s := atFeed .stopped 7 0
     producing s = false ∧ s.feed.excursion = 0) ∧
    (let s := atFeed .running (2 ^ 40 - 2) 0
     2 ^ 40 - 1 ≤ s.feed.position + 1 ∧ s.feed.position ≤ 2 ^ 40 - 1 ∧ s.run.causes.positionEnd = false) ∧
    (let s := atFeed .stopped (2 ^ 40 - 1) 0
     2 ^ 40 - 1 ≤ s.feed.position + 1 ∧ s.feed.position ≤ 2 ^ 40 - 1 ∧ s.run.causes.positionEnd = false) := by decide

/-- With no splice under way and no seam record, no splice position is reached. -/
theorem noSplicePoint (n : Nat) (u : UnwindUnit) (h : u.splice = .idle ∧ u.seam = none) : NoSplicePointReached n u :=
  ⟨fun _ _ _ _ e => absurd (h.1.symm.trans e) nofun, fun _ _ _ _ _ _ e => absurd (h.1.symm.trans e) nofun,
    fun _ e => absurd (h.2.symm.trans e) nofun⟩

/-- FeedCauses, the halts as equations: the tolerance of 200 passed at the start of the range, and the two forward ticks at its end,
with an empty plan and an empty list. -/
theorem test_witness_feedCauses_halts :
    (let s := atFeed .running 0 200
     ((s.levels.feedA, s.levels.feedB), (false, true), Direction.reverse) ∈ encoderTable ∧ producing s = true ∧
       s.tracking.reverseTolerance < s.feed.excursion + 1 ∧ NoMarkMissed (s.feed.position - 1) s s.marks.list ∧
       NoEntryReached (s.feed.position - 1) s.plan ∧ NoSplicePointReached (s.feed.position - 1) s.unwind) ∧
      ∀ pos ∈ [2 ^ 40 - 2, 2 ^ 40 - 1],
        let s := atFeed .running pos 0
        ((s.levels.feedA, s.levels.feedB), (true, false), Direction.forward) ∈ encoderTable ∧
          2 ^ 40 - 1 ≤ s.feed.position + 1 ∧ s.feed.position ≤ 2 ^ 40 - 1 ∧ NoMarkMissed (2 ^ 40 - 1) s s.marks.list ∧
          NoEntryReached (2 ^ 40 - 1) s.plan ∧ NoSplicePointReached (2 ^ 40 - 1) s.unwind := by
  refine ⟨⟨by decide, by decide, by decide, nofun, nofun, noSplicePoint _ _ ⟨rfl, rfl⟩⟩, ?_⟩
  simp only [List.forall_mem_cons, List.not_mem_nil, false_imp_iff, implies_true, and_true]
  exact ⟨⟨by decide, by decide, by decide, nofun, nofun, noSplicePoint _ _ ⟨rfl, rfl⟩⟩,
    by decide, by decide, by decide, nofun, nofun, noSplicePoint _ _ ⟨rfl, rfl⟩⟩

/-- SpeedGateEnd: a gate just complete; the speed at the ceiling, one tick above it with 1, 2 and 3 gates, armed and not. -/
theorem test_witness_speedGateEnd :
    10000 ≤ elapsed (atTime 10000).lineTime (atTime 10000).feed.gateStart ∧ 100 ≤ ({ State.reset.head with ceiling := 100 }).ceiling ∧
      (∀ n ∈ [1, 2, 3],
        let h : Head := { State.reset.head with ceiling := 99, overCount := n }
        h.ceiling < 100 ∧ (h.overCount < 2 ∨ h.overCount = 2 ∨ h.overCount = 3) ∧ h.armed = true ∧
          ({ h with armed := false } : Head).armed = false) := by decide

/-- TimedFlagsEnd: each of the three expiries just due. -/
theorem test_witness_timedFlagsEnd :
    (let s : State := { atTime 500000 with feed := { State.reset.feed with standstill := false } }
     s.feed.standstill = false ∧ s.tracking.standstillMs * 1000 ≤ elapsed s.lineTime s.feed.lastTick) ∧
    (let s : State := { atTime 500000 with carrier := { State.reset.carrier with standstill := false } }
     s.carrier.standstill = false ∧ s.tracking.standstillMs * 1000 ≤ elapsed s.lineTime s.carrier.lastTick) ∧
    (let s : State := { atTime 30000 with exitUnit := { State.reset.exitUnit with cut := some ⟨0, 30000⟩ } }
     s.exitUnit.cut = some ⟨0, 30000⟩ ∧ (⟨0, 30000⟩ : Timer).dur ≤ elapsed s.lineTime (⟨0, 30000⟩ : Timer).start) := by decide

/-- A carrier position with segments. -/
def atCarrier (pos : Nat) (segments : List Segment) : State :=
  { State.reset with
    carrier := { State.reset.carrier with position := pos }, map := { State.reset.map with segments := segments } }

/-- CarrierTick: just short of the exit; and the two ticks at the end of the range. -/
theorem test_witness_carrierTick :
    (let s := atCarrier 399998 [aSegment (some 0)]
     s.carrier.position + 1 < 2 ^ 40 - 1 ∧
       ∀ g ∈ s.map.segments.head?, ∀ p ∈ g.trailing, s.carrier.position + 1 - p < s.tracking.exitDistance) ∧
    (let s := atCarrier (2 ^ 40 - 2) []
     s.carrier.position + 1 = 2 ^ 40 - 1 ∧ s.carrier.position ≤ 2 ^ 40 - 1 ∧ 2 ^ 40 - 1 ≤ s.carrier.position + 1 ∧ s.run.causes.positionEnd = false) ∧
    (let s := atCarrier (2 ^ 40 - 1) []
     s.carrier.position = 2 ^ 40 - 1 ∧ s.carrier.position ≤ 2 ^ 40 - 1 ∧ 2 ^ 40 - 1 ≤ s.carrier.position + 1 ∧ s.run.causes.positionEnd = false) := by decide

/-- ExitOfOldest: the trailing distance just reaches the exit distance; the report queue not full, and full. -/
theorem test_witness_exitOfOldest :
    let s := atCarrier 399999 [aSegment (some 0), aSegment (some 1)]
    s.inReset = false ∧ s.map.segments = aSegment (some 0) :: [aSegment (some 1)] ∧ s.carrier.position + 1 < 2 ^ 40 - 1 ∧
      s.tracking.exitDistance ≤ s.carrier.position + 1 - 0 ∧
      (∀ w ∈ [aSegment (some 1)].head?, ∀ q ∈ w.trailing, s.carrier.position + 1 - q < s.tracking.exitDistance) ∧
      (∀ e ∈ s.plan.head?, s.feed.position < e.position) ∧ s.exitUnit.reports.length < 16 ∧
      16 ≤ ({ s.exitUnit with reports := List.replicate 16 (reportOf (aSegment (some 0)) 0) }).reports.length := by decide

/-- A full map whose two oldest segments are at the exit at the next carrier tick, and a PANEL_START held at the head. -/
def exitsState : State :=
  { atCarrier 400000 (aSegment (some 0) :: aSegment (some 1) :: List.replicate 22 (aSegment none)) with
    plan := [⟨.panelStart, 0, 0⟩], planner := { State.reset.planner with contexts := [planningContext header0 ⟨0, 0, 0, 0, 0⟩] } }

/-- ExitOfOldest, the exits in a row: two segments at the exit and a PANEL_START held by the full map. -/
theorem test_witness_exits :
    exitsState.inReset = false ∧ exitsState.carrier.position + 1 < 2 ^ 40 - 1 ∧
      exitsState.tracking.exitDistance ≤ exitsState.carrier.position + 1 - 1 ∧ 24 ≤ exitsState.map.segments.length ∧
      (∀ e ∈ exitsState.plan.head?, e.position ≤ exitsState.feed.position) := by decide

/-- R117, R74: both segments leave, and the held PANEL_START is taken when the first has left. -/
theorem test_exits :
    (match exec .carrierTick exitsState with
      | .next t => decide (t.exitUnit.reports.length = 2 ∧ t.map.segments.length = 23 ∧ t.plan = [] ∧ t.map.started = 1)
      | _ => false) = true := by decide

/-- The arguments of a SET_TRACKING with the defaults of 1.8. -/
def trackingArgs : List Byte :=
  le 2 10000 ++ le 3 5000 ++ le 2 20 ++ le 2 400 ++ le 3 200 ++ le 2 500 ++ le 3 400000 ++ le 3 30000

/-- SetTrackingTaken: the request taken at rest, with every field in range and with none; and while the line runs. -/
theorem test_witness_setTracking :
    Taking .setTracking .line ⟨0x07, false, trackingArgs⟩ (asked .line 0x07 trackingArgs State.reset) ∧
      Taking .setTracking .line ⟨0x07, false, List.replicate 20 0⟩ (asked .line 0x07 (List.replicate 20 0) State.reset) ∧
      Taking .setTracking .line ⟨0x07, false, trackingArgs⟩ (asked .line 0x07 trackingArgs (inRun .running State.reset)) ∧
      (producing State.reset = false ∧ State.reset.plan = [] ∧ State.reset.marks.list = [] ∧
        (∀ c ∈ State.reset.planner.contexts, c.planning = none)) ∧
      (let a := trackingArgs
       (1000 ≤ field a 0 2 ∧ field a 0 2 ≤ 50000) ∧ field a 2 3 ≤ 200000 ∧ (1 ≤ field a 5 2 ∧ field a 5 2 ≤ 20000) ∧
         (field a 5 2 ≤ field a 7 2 ∧ field a 7 2 ≤ 20000) ∧ field a 9 3 ≤ 100000 ∧
         (100 ≤ field a 12 2 ∧ field a 12 2 ≤ 5000) ∧ (1000 ≤ field a 14 3 ∧ field a 14 3 ≤ 16000000) ∧
         (1000 ≤ field a 17 3 ∧ field a 17 3 ≤ 500000) ∧
         (State.reset.heat.zones.z1.bound ≤ field a 14 3 ∧ State.reset.heat.zones.z2.bound ≤ field a 14 3) ∧
         State.reset.heat.zones.z3.bound ≤ field a 14 3 ∧ State.reset.heat.zones.z4.bound ≤ field a 14 3) ∧
      ¬1000 ≤ field (List.replicate 20 0) 0 2 ∧
      producing (inRun .running State.reset) = true :=
  ⟨taking_asked _ _ _ _ _ rfl (fun m => by cases m <;> rfl) (by decide),
    taking_asked _ _ _ _ _ rfl (fun m => by cases m <;> rfl) (by decide),
    taking_asked _ _ _ _ _ rfl (fun m => by cases m <;> rfl) (by decide), by decide, by decide, by decide, by decide⟩

/-! ## Witnesses: marks and planning -/

/-- A mark with a head position of 2^40, and a front expectation whose window reaches there. -/
def beyondRange : State :=
  { measuring 20 none [expectation (2 ^ 40 - 1) 0] with
    feed := { State.reset.feed with position := 2 ^ 40 - 4999 }
    marks := { State.reset.marks with
      measurement := some ⟨2 ^ 40 - 5000, 2 ^ 40, 20, none⟩, list := [expectation (2 ^ 40 - 1) 0] } }

/-- MarkEdges: the leading edge; a trailing edge with the measurement closed; a spoiled mark; one too wide; one too narrow; one
outside the window by one tick on each side. -/
theorem test_witness_markEdges :
    State.reset.levels.mark = false ∧
      (let s : State := { State.reset with levels := { State.reset.levels with mark := true } }
       s.levels.mark = true ∧ s.marks.measurement = none) ∧
      (∀ q ∈ [((20 : Nat), some SpoilReason.reverse), (401, some .width), (401, none), (19, none), (20, none), (400, none)],
        let s := measuring q.1 q.2 []
        s.levels.mark = true ∧ s.marks.measurement = some ⟨0, 5000, q.1, q.2⟩ ∧
          (∀ e ∈ s.marks.list.head?, s.feed.position + s.tracking.markOffset ≤ e.position + e.window)) ∧
      (let s := measuring 20 none [expectation 5011 0]
       (∀ e ∈ s.marks.list.head?, s.feed.position + s.tracking.markOffset ≤ e.position + e.window) ∧
         ∀ e ∈ s.marks.list.head?, 5000 + e.window < e.position ∨ e.position + e.window < 5000) ∧
      (beyondRange.levels.mark = true ∧ beyondRange.marks.measurement = some ⟨2 ^ 40 - 5000, 2 ^ 40, 20, none⟩ ∧
        2 ^ 40 - 1 < (2 ^ 40 : Nat) ∧ ∀ e ∈ beyondRange.marks.list.head?,
          beyondRange.feed.position + beyondRange.tracking.markOffset ≤ e.position + e.window) := by decide

/-- R58: a head position beyond 2^40 - 1 matches no expectation, though the front's window reaches there. -/
theorem test_stray_beyond_range :
    (match exec .markTrailingEdge beyondRange with
      | .next t => decide (t.marks.outcome = some ⟨.stray, 2 ^ 40, 20⟩ ∧ t.marks.list = beyondRange.marks.list)
      | _ => false) = true := by decide

/-- MarkEdges, the misses: the window's far edge one tick behind the sensor after the tick, the next front not missed, with 0 and 2
misses before; a mark inside the window whose factor is too small or too large, and one whose shift would take a position below 0. -/
theorem test_witness_marksMissed :
    (∀ n ∈ [0, 2],
      let s : State :=
        { State.reset with
          marks := { State.reset.marks with list := [expectation 4990 1, expectation 4991 0], misses := n } }
      ForwardTick true false s ∧ s.marks.list = expectation 4990 1 :: [expectation 4991 0] ∧ s.marks.misses ≤ 3 ∧
        s.marks.measurement = none ∧ 4990 + (expectation 4990 1).window < s.feed.position + 1 + s.tracking.markOffset ∧
        NoMarkMissed (s.feed.position + 1) s [expectation 4991 0] ∧ NoEntryReached (s.feed.position + 1) s.plan ∧
        s.unwind.splice = .idle ∧ s.unwind.seam = none) ∧
      (∀ e ∈ [expectation 5010 1, { expectation 5010 1 with repeatLen := 10000 }],
        let s : State :=
          { measuring 20 none [e] with marks := { (measuring 20 none [e]).marks with last := some ⟨3949, 0, 0⟩ } }
        let k := roundHalfUpInt (((5000 : Int) - 3949) * 65536 * s.tracking.feedTick) (e.repeatLen * 1000 * (0 + 1))
        s.inReset = false ∧ s.levels.mark = true ∧ s.marks.measurement = some ⟨0, 5000, 20, none⟩ ∧ s.marks.list = [e] ∧
          s.marks.misses ≤ 3 ∧ s.tracking.markWidthMin ≤ 20 ∧ 20 ≤ s.tracking.markWidthMax ∧
          e.position ≤ 5000 + e.window ∧ 5000 ≤ e.position + e.window ∧ 5000 ≤ 2 ^ 40 - 1 ∧
          NoMarkMissed s.feed.position s [] ∧ s.marks.last = some ⟨3949, 0, 0⟩ ∧ e.serial = 0 ∧
          (k < 62259 ∨ 68813 < k)) ∧
      (let s : State := { measuring 20 none [expectation 5010 0] with plan := [⟨.fold 4 4, 9, 0⟩] }
       s.levels.mark = true ∧ s.marks.last = none ∧ (expectation 5010 0).position ≤ 5000 + (expectation 5010 0).window ∧
         NoMarkMissed s.feed.position s [] ∧ ∃ n ∈ movedPositions [] s, (n : Int) + ((5000 : Int) - 5010) < 0) := by
  unfold ForwardTick NoMarkMissed NoEntryReached
  decide

/-- MarkAccepted: with no last accepted mark, an expectation 10 ahead, the plan and the next expectation well ahead. -/
theorem test_witness_markAccepted :
    let s : State :=
      { measuring 20 none [expectation 5010 0, expectation 9000 1] with
        plan := [⟨.fold 4 4, 50, 0⟩], planner := { State.reset.planner with cursor := some 60, lastAppended := some 50 } }
    let rest := [expectation 9000 1]
    let d : Int := (5000 : Int) - 5010
    s.inReset = false ∧ s.levels.mark = true ∧ s.marks.measurement = some ⟨0, 5000, 20, none⟩ ∧
      s.tracking.markWidthMin ≤ 20 ∧ 20 ≤ s.tracking.markWidthMax ∧ s.marks.list = expectation 5010 0 :: rest ∧
      (expectation 5010 0).position ≤ 5000 + (expectation 5010 0).window ∧ s.marks.last = none ∧ 62259 ≤ s.marks.k ∧
      s.marks.k ≤ 68813 ∧ (∀ n ∈ movedPositions rest s, 0 ≤ (n : Int) + d ∧ (n : Int) + d ≤ 2 ^ 40 - 1) ∧
      (∀ x ∈ rest.head?, (s.feed.position : Int) + s.tracking.markOffset ≤ x.position + d + x.window) ∧
      5000 ≤ 2 ^ 40 - 1 ∧ NoEntryReached s.feed.position (markAccepted ⟨0, 5000, 20, none⟩ (expectation 5010 0) rest 65536 s).plan ∧
      s.unwind.splice = .idle := by
  unfold NoEntryReached
  decide

/-- MarkAccepted: the shift of the worked sequence brings the front FOLD behind the fabric, while a fire position ahead of the fabric
by 10 falls behind it, or a DUE splice may be searched. -/
theorem test_witness_markAccepted_reached :
    let e : Expectation := ⟨424170, 300, 212, 1, 240000⟩
    let rest : List Expectation := [⟨427803, 300, 213, 0, 240000⟩]
    let d : Int := (424133 : Int) - 424170
    let rolled := withRolls (some (aRoll .running 99)) (some (aRoll .ready 99)) shiftState
    ∀ s ∈ [shiftState, withSplice (.planned .request .b 720033 420033) shiftState, withSplice (.due .request) rolled],
      s.inReset = false ∧ s.levels.mark = true ∧ s.marks.measurement = some ⟨419933, 424133, 90, none⟩ ∧
        s.tracking.markWidthMin ≤ 90 ∧ 90 ≤ s.tracking.markWidthMax ∧ s.marks.list = e :: rest ∧
        e.position ≤ 424133 + e.window ∧ 424133 ≤ e.position + e.window ∧ s.marks.last = some ⟨400000, 212, 0⟩ ∧
        roundHalfUpInt (((424133 : Int) - 400000) * 65536 * s.tracking.feedTick) (e.repeatLen * 1000 * (0 + 1)) = 65899 ∧
        (∀ n ∈ movedPositions rest s, 0 ≤ (n : Int) + d ∧ (n : Int) + d ≤ 2 ^ 40 - 1) ∧
        (∀ x ∈ rest.head?, (s.feed.position : Int) + s.tracking.markOffset ≤ x.position + d + x.window) ∧
        (∃ p ∈ s.plan.head?, (p.position : Int) + d ≤ s.feed.position) ∧
        (s.unwind.splice = .idle ∨ s.unwind.splice = .planned .request .b 720033 420033 ∨
          (s.unwind.splice = .due .request ∧ runningSide s.unwind = some .a ∧
            rollIs .ready (s.unwind.rolls.get (otherSide .a)) = true ∧ producing s = true ∧ s.unwind.seam = none)) := by
  decide

/-- R67: the fire position that the shift brings behind the fabric is taken as reached: the splice fires. -/
theorem test_shift_fires :
    let s : State := { shiftState with plan := [⟨.fold 4 4, 422896, 212⟩, ⟨.panelEnd, 427803, 212⟩] }
    (match exec .markTrailingEdge (withSplice (.planned .request .b 720033 420033) s) with
      | .next t =>
        decide
          (t.unwind.splice = .fired .request .b 719996 419996 420023 (420023 + t.unwind.settings.knifeDelay) ∧
            t.unwind.paste.isSome = true ∧ t.plan.map (·.position) = [422859, 427766])
      | _ => false) = true := by decide

/-- MarkAccepted: a factor measured at the smallest and the largest k, and a PLANNED splice ahead of the fabric after the shift. -/
theorem test_witness_markAccepted_factor :
    roundHalfUpInt (((5000 : Int) - 4050) * 65536 * 10000) (10000 * 1000 * (0 + 1)) = 62259 ∧
      roundHalfUpInt (((5000 : Int) - 3950) * 65536 * 10000) (10000 * 1000 * (0 + 1)) = 68813 ∧
      (withSplice (.planned .request .b 9000 8000) State.reset).unwind.splice = .planned .request .b 9000 8000 ∧
      ((0 : Nat) : Int) < (8000 : Int) + ((5000 : Int) - 5010) := by decide

/-- CopyBegins: from a READY slot and from a RETIRING one; the last copy, and one that is not the last; a PANEL_START reached. -/
theorem test_witness_copyBegins :
    (∀ copies ∈ [1, 2],
      let s : State := { withSlot (.ready header1 [pleat] 1) State.reset with orders := [⟨0, 5, copies, 0⟩] }
      s.inReset = false ∧ s.plan.length < 128 ∧ (∀ c ∈ s.planner.contexts, c.planning = none) ∧
        s.planner.contexts.length < 8 ∧ s.slots[0] = .ready header1 [pleat] 1 ∧ s.marks.list.length < 16 ∧
        s.run.state ≠ .draining ∧ s.feed.position < entryPosition s.planner.lastAppended (s.feed.position + 1) ∧
        s.unwind.splice = .idle) ∧
      (let s : State :=
         { withSlot (.ready header1 [pleat] 1) (atFeed .running 9 0) with
           orders := [⟨0, 5, 2, 0⟩], planner := { State.reset.planner with cursor := some 9, lastAppended := some 8 } }
       s.planner.cursor = some 9 ∧ entryPosition s.planner.lastAppended 9 ≤ s.feed.position) ∧
      (withSlot (.retiring header0 [pleat] 1) State.reset).slots[0] = .retiring header0 [pleat] 1 := by decide

/-- ExpectationAppended: a mark one tick behind the cursor, not missed. -/
theorem test_witness_expectationAppended :
    let p : PlanningState := ⟨0, 1, 0, 9, 0⟩
    let s := { planningState header1 [pleat] p with feed := { State.reset.feed with position := 0 }, tracking := { State.reset.tracking with markOffset := 0 } }
    s.inReset = false ∧ s.plan.length < 128 ∧ planningCopy s = some (planningContext header1 p, p) ∧
      (planningContext header1 p).repeatLen ≠ 0 ∧ s.marks.list.length < 16 ∧ s.planner.cursor = some 10 ∧ p.nextMark < 10 ∧
      ∀ x ∈ (s.marks.list ++ [(⟨9, 50, 0, 0, 100000⟩ : Expectation)]).head?,
        s.feed.position + s.tracking.markOffset ≤ x.position + x.window := by decide

/-- EntriesAppended: a FOLD, a FLAT and a PANEL_END to come, depths within the table and beyond it. -/
theorem test_witness_entriesAppended :
    (let p : PlanningState := ⟨0, 0, 0, 10, 0⟩
     let s := planningState header1 [pleat] p
     let c := planningContext header1 p
     s.inReset = false ∧ s.plan.length < 128 ∧ planningCopy s = some (c, p) ∧ s.planner.cursor = some 10 ∧
       c.startConsumed = false ∧ s.marks.list.length < 16 ∧ 10 ≤ p.nextMark ∧ s.unwind.splice = .idle ∧
       s.slots[c.slot].steps[p.stepIndex]? = some pleat ∧ pleat.kind ≠ .flat ∧
       entryPosition s.planner.lastAppended (10 + (takeOf pleat (shrinkOf s c) c.k s.tracking.feedTick p.remainder).1) ≤ 2 ^ 40 - 1 ∧
       s.feed.position < entryPosition s.planner.lastAppended 10 ∧ pleat.waist ≤ s.head.setup.table[15] ∧
       s.head.setup.table[15] < ({ pleat with waist := 37501 } : PatternStep).waist) ∧
    (let p : PlanningState := ⟨0, 0, 0, 10, 0⟩
     let s := planningState header0 [flatRun] p
     planningCopy s = some (planningContext header0 p, p) ∧ s.slots[(0 : Fin 16)].steps[p.stepIndex]? = some flatRun ∧
       flatRun.kind = .flat ∧ entryPosition s.planner.lastAppended 10 ≤ 2 ^ 40 - 1 ∧
       s.feed.position < entryPosition s.planner.lastAppended 10) ∧
    (let p : PlanningState := ⟨1, 0, 0, 10, 0⟩
     let s := planningState header0 [flatRun] p
     planningCopy s = some (planningContext header0 p, p) ∧ s.slots[(0 : Fin 16)].steps[p.stepIndex]? = none ∧
       entryPosition s.planner.lastAppended 10 ≤ 2 ^ 40 - 1 ∧
       s.feed.position < entryPosition s.planner.lastAppended 10) := by decide

/-- EntriesAppended: a FLAT and a PANEL_END already reached at their append, of a copy whose PANEL_START is consumed, with a DUE splice
to search. -/
theorem test_witness_entriesAppended_reached :
    ∀ i ∈ [0, 1],
      let p : PlanningState := ⟨i, 0, 0, 10, 0⟩
      let c : Context := { planningContext header0 p with startConsumed := true }
      let s : State :=
        withRolls (some (aRoll .running 99)) (some (aRoll .ready 99))
          (withSplice (.due .request)
            { withSlot (.retiring header0 [flatRun] 1) (atFeed .running 10 0) with planner := ⟨some 10, some 9, 1, [c]⟩ })
      s.inReset = false ∧ s.plan.length < 128 ∧ planningCopy s = some (c, p) ∧ s.planner.cursor = some 10 ∧
        c.startConsumed = true ∧ c.repeatLen = 0 ∧
        s.slots[c.slot].steps[p.stepIndex]? = (if i = 0 then some flatRun else none) ∧
        entryPosition s.planner.lastAppended 10 ≤ s.feed.position ∧ s.unwind.splice = .due .request ∧
        runningSide s.unwind = some .a ∧ rollIs .ready (s.unwind.rolls.get (otherSide .a)) = true ∧ producing s = true ∧
        s.unwind.seam = none ∧ s.planner.contexts.find? (fun x => x.serial = c.serial) = some c ∧
        s.slots[c.slot].number = 3 ∧ s.slots[c.slot].refs ≤ 1 := by decide

/-- R55, R162: a FLAT of 2,500 ticks is the run that the search takes in the event of its append. -/
theorem test_append_searched :
    let p : PlanningState := ⟨0, 0, 0, 310000, 0⟩
    let s : State :=
      withRolls (some (aRoll .running 99)) (some (aRoll .ready 99))
        (withSplice (.due .request)
          { withSlot (.ready header0 [{ flatRun with pitch := 25000 }] 1) (atFeed .running 10 0) with
            planner := ⟨some 310000, some 9, 1, [planningContext header0 p]⟩ })
    (match exec .plannerAppendFlat s with
      | .next t => decide (t.unwind.splice = .planned .request .b 311250 11250 ∧ t.plan.length = 1)
      | _ => false) = true := by decide

/-- TakesAreExact: the largest remainder. -/
theorem test_witness_takesAreExact : (0 : Nat) < 10000 ∧ 10000 * 65536 * 10000 - 1 < 10000 * 65536 * 10000 := by decide

/-- StrokeCodeIsSmallest: a depth at the table's end, and one beyond it. -/
theorem test_witness_strokeCode :
    37500 ≤ HeadSetup.default.table[15] ∧ ∀ j : Fin 16, HeadSetup.default.table[j] < 37501 := by decide

/-! ## Witnesses: the head and run control -/

/-- A head in a phase of its cycle, at the end of the phase. -/
def inCycle (c : BladeCycle) (pending : Option PendingFold) : State :=
  { inRun .running (atTime 2000) with
    head := { State.reset.head with cycle := c, inCycle := some ⟨0, 50⟩, pendingFold := pending } }

/-- BladeCycle, the pending fold at 60 fired: with a lag of 20, at its segment's limit, and with one of 21, late. -/
theorem test_witness_bladeCycle_lag :
    ∀ pos ∈ [80, 81],
      let b := inCycle (.closing ⟨0, 2000⟩) (some ⟨0, 60, 4, 4, 60⟩)
      let s : State :=
        { b with feed := { b.feed with position := pos }, map := { b.map with segments := [aSegment none] } }
      s.inReset = false ∧ s.head.cycle = .closing ⟨0, 2000⟩ ∧ s.head.pendingFold = some ⟨0, 60, 4, 4, 60⟩ ∧
        (⟨0, 2000⟩ : Timer).dur ≤ elapsed s.lineTime (⟨0, 2000⟩ : Timer).start ∧ segmentOf 0 s = some (aSegment none) ∧
        ((aSegment none).lagLimit < s.feed.position - 60 ↔ pos = 81) := by decide

/-- R78, R80, R98: the pending fold fired late by the end of the closing gap is counted, and the drain that it held back is complete. -/
theorem test_late_fold_drains :
    let b := inRun .draining (inCycle (.closing ⟨0, 2000⟩) (some ⟨0, 60, 4, 4, 60⟩))
    (match exec .closingGapEnd
        { b with feed := { b.feed with position := 81 }, map := { b.map with segments := [aSegment none] } } with
      | .next t =>
        decide
          (t.map.segments.map (fun g => (g.fired, g.late, g.flags.lateFold)) = [(1, 1, true)] ∧
            t.notices.line.pendingSet = [.drained, .lateFold] ∧ t.run.state = .stopped)
      | _ => false) = true := by decide

/-- BladeCycle: each phase just at its end, with and without a pending fold, and CLAMP waiting. -/
theorem test_witness_bladeCycle :
    (let s := inCycle (.opening ⟨0, 2000⟩) none
     s.head.cycle = .opening ⟨0, 2000⟩ ∧ (⟨0, 2000⟩ : Timer).dur ≤ elapsed s.lineTime (⟨0, 2000⟩ : Timer).start) ∧
    (let s := inCycle (.strike ⟨0, 2000⟩) none
     s.head.cycle = .strike ⟨0, 2000⟩ ∧ (⟨0, 2000⟩ : Timer).dur ≤ elapsed s.lineTime (⟨0, 2000⟩ : Timer).start) ∧
    (let s := inCycle (.closing ⟨0, 2000⟩) none
     s.head.cycle = .closing ⟨0, 2000⟩ ∧ s.head.pendingFold = none) ∧
    (let s := atTime 2000
     s.head.cycle = .idle ∧ s.run.causes.safe = false ∧ s.head.clamp = false ∧
       s.head.bladeGap.dur ≤ elapsed s.lineTime s.head.bladeGap.start) ∧
    (let s := inRun .draining (inCycle (.closing ⟨0, 2000⟩) (some ⟨0, 60, 4, 4, 60⟩))
     s.head.cycle = .closing ⟨0, 2000⟩ ∧ s.head.pendingFold = some ⟨0, 60, 4, 4, 60⟩ ∧ s.run.state = .draining ∧ s.plan = [] ∧
       ∀ c ∈ s.planner.contexts, c.planning = none) ∧
    (let s := inCycle (.closing ⟨0, 2000⟩) (some ⟨0, 60, 4, 4, 60⟩)
     ¬(s.run.state = .draining ∧ s.plan = [] ∧ ∀ c ∈ s.planner.contexts, c.planning = none)) := by decide

/-- EntriesReached, a FOLD: idle with a lag at the limit, one beyond it, and no segment; busy; busy with a pending fold; at rest. -/
theorem test_witness_entriesReached_fold :
    (∀ pos ∈ [20, 19],
      let s : State :=
        { inRun .running State.reset with
          feed := { State.reset.feed with position := 40 }, map := { State.reset.map with segments := [aSegment none] } }
      producing s = true ∧ s.head.cycle = .idle ∧ segmentOf 0 s = some (aSegment none) ∧
        (s.feed.position - pos ≤ (aSegment none).lagLimit ↔ pos = 20)) ∧
    (let s := inCycle (.strike ⟨0, 2000⟩) none
     producing s = true ∧ s.head.cycle ≠ .idle ∧ s.head.pendingFold = none) ∧
    (let s := inCycle (.strike ⟨0, 2000⟩) (some ⟨0, 60, 4, 4, 60⟩)
     producing s = true ∧ s.head.cycle ≠ .idle ∧ s.head.pendingFold = some ⟨0, 60, 4, 4, 60⟩ ∧ s.run.causes.overrun = false) ∧
    producing State.reset = false ∧ segmentOf 0 (inRun .running State.reset) = none := by decide

/-- One entry at the front of the plan that the next forward tick reaches, with a context of its serial. -/
def atEntry (kind : EntryKind) (c : Context) : State :=
  { withSlot (.retiring header0 [pleat] 1) (atFeed .running 8 0) with
    plan := [⟨kind, 9, 0⟩, ⟨.fold 4 4, 10, 0⟩], planner := { State.reset.planner with contexts := [c] } }

/-- EntriesReached: each kind reached by a forward tick, the next entry one tick ahead; a context still being planned and one that is
not; the map with room and full; a drain complete and not. -/
theorem test_witness_entriesReached :
    (∀ kind ∈ [EntryKind.fold 3 4, .panelStart, .flat 5 true, .panelEnd],
      let s := atEntry kind plannedContext
      ForwardTick true false s ∧ s.plan = ⟨kind, 9, 0⟩ :: [⟨.fold 4 4, 10, 0⟩] ∧ 9 ≤ s.feed.position + 1 ∧
        NoEntryReached (s.feed.position + 1) [⟨.fold 4 4, 10, 0⟩] ∧
        NoMarkMissed (s.feed.position + 1) s s.marks.list ∧ s.unwind.splice = .idle ∧ s.unwind.seam = none ∧
        s.planner.contexts.find? (fun x => x.serial = 0) = some plannedContext ∧ s.map.segments.length < 24) ∧
      (planningContext header0 ⟨0, 0, 0, 0, 0⟩).planning ≠ none ∧ plannedContext.planning = none ∧
      24 ≤ (List.replicate 24 (aSegment (some 0))).length ∧ State.reset.run.causes.mapFull = false ∧
      (haltedBy .mapFull State.reset).run.causes.mapFull = true ∧
      (let s := inRun .draining State.reset
       s.run.state = .draining ∧ s.plan = [] ∧ (∀ c ∈ s.planner.contexts, c.planning = none) ∧ s.head.pendingFold = none) ∧
      State.reset.run.state ≠ .draining := by
  unfold ForwardTick NoEntryReached NoMarkMissed
  decide

/-- EntriesReached: a PANEL_START reached on a map of 24 segments. -/
theorem test_witness_entriesReached_full :
    let s : State :=
      { atEntry .panelStart plannedContext with map := { State.reset.map with segments := List.replicate 24 (aSegment (some 0)) } }
    ForwardTick true false s ∧ s.plan = ⟨.panelStart, 9, 0⟩ :: [⟨.fold 4 4, 10, 0⟩] ∧ 9 ≤ s.feed.position + 1 ∧
      NoEntryReached (s.feed.position + 1) [⟨.fold 4 4, 10, 0⟩] ∧ NoMarkMissed (s.feed.position + 1) s s.marks.list ∧
      NoSplicePointReached (s.feed.position + 1) s.unwind ∧ 24 ≤ s.map.segments.length :=
  ⟨by unfold ForwardTick; decide, rfl, by decide, by unfold NoEntryReached; decide, by unfold NoMarkMissed; decide,
    noSplicePoint _ _ ⟨rfl, rfl⟩, by decide⟩

/-- R75, R81, R84: an OVERRUN in STRIKE counts the pending fold and the reached one missed, and flags the fold in cycle aborted. -/
theorem test_overrun :
    let b := inCycle (.strike ⟨0, 2000⟩) (some ⟨0, 60, 4, 4, 60⟩)
    let t := reachFold 0 70 4 4 { b with map := { b.map with segments := [aSegment none] } }
    t.map.segments.map (fun g => (g.missed, g.flags.missedFold, g.flags.abortedFold)) = [(2, true, true)] ∧
      t.run.haltEntry = some (.overrun, 2000) ∧ t.notices.line.pendingSet = [.halted] ∧ t.head.blade = false := by decide

/-- The arguments of a SET_HEAD with the defaults of 5.7. -/
def headArgs : List Byte := le 2 2000 ++ le 3 18000 ++ ((List.range 16).map (fun c => le 2 (2500 * c))).flatten

/-- SetHeadTaken. -/
theorem test_witness_setHead :
    Taking .setHead .line ⟨0x08, false, headArgs⟩ (asked .line 0x08 headArgs State.reset) ∧
      Taking .setHead .line ⟨0x08, false, List.replicate 37 0⟩ (asked .line 0x08 (List.replicate 37 0) State.reset) ∧
      Taking .setHead .line ⟨0x08, false, headArgs⟩ (asked .line 0x08 headArgs (inRun .running State.reset)) ∧
      producing State.reset = false ∧ producing (inRun .running State.reset) = true ∧
      (let depth (c : Fin 16) : Nat := field headArgs (5 + 2 * c.val) 2
       (200 ≤ field headArgs 0 2 ∧ field headArgs 0 2 ≤ 20000) ∧ (1000 ≤ field headArgs 2 3 ∧ field headArgs 2 3 ≤ 100000) ∧
         (∀ c, depth c ≤ 60000) ∧ ∀ c c' : Fin 16, c < c' → depth c < depth c') ∧
      ¬200 ≤ field (List.replicate 37 0) 0 2 :=
  ⟨taking_asked _ _ _ _ _ rfl (fun m => by cases m <;> rfl) (by decide),
    taking_asked _ _ _ _ _ rfl (fun m => by cases m <;> rfl) (by decide),
    taking_asked _ _ _ _ _ rfl (fun m => by cases m <;> rfl) (by decide), by decide, by decide, by decide, by decide⟩

/-- SafeInput: the assertion that enters HALTED and one that finds it, each with and without a splice in progress; SAFE already in the
set; the negation. -/
theorem test_witness_safeInput :
    (∀ s ∈ [State.reset, haltedBy .operator State.reset],
      (s.inReset = false ∧ s.levels.safeStop = false ∧ s.run.causes.safe = false ∧ (s.run.state ≠ .halted ↔ s = State.reset)) ∧
        s.unwind.splice.inProgress = false ∧
        (withSplice (.fired .request .b 9000 8000 8000 9500) s).unwind.splice = .fired .request .b 9000 8000 8000 9500 ∧
        (withSplice (.cutting .request .b 9000 8000 8000 9500) s).unwind.splice = .cutting .request .b 9000 8000 8000 9500 ∧
        (withSplice (.cutting .request .b 9000 8000 8000 9500) s).unwind.splice.inProgress = true) ∧
      (haltedBy .safe State.reset).levels.safeStop = false ∧ (haltedBy .safe State.reset).run.causes.safe = true ∧
      ({ State.reset with levels := { State.reset.levels with safeStop := true } } : State).levels.safeStop = true := by decide

/-- R85, R81, R95: SAFE in STRIKE with a fold pending aborts the one and misses the other, and a PLANNED splice is DUE again. -/
theorem test_safe_in_strike :
    let b := withSplice (.planned .reserve .b 9000 8000) (inCycle (.strike ⟨0, 2000⟩) (some ⟨1, 60, 4, 4, 60⟩))
    (match exec .safeStopAssertion
        { b with map := { b.map with segments := [aSegment (some 0), { aSegment none with serial := 1 }] } } with
      | .next t =>
        decide
          (t.map.segments.map (fun g => (g.flags.abortedFold, g.missed, g.flags.missedFold)) = [(true, 0, false), (false, 1, true)] ∧
            t.unwind.splice = .due .reserve ∧ t.notices.line.pendingSet = [.safeStop, .halted] ∧
            t.run.haltEntry = some (.safe, 2000))
      | _ => false) = true := by decide

/-- A taking of a LINE request without arguments. -/
theorem taking_line (c : RequestCode) (code : Byte) (s : State) (hr : s.inReset = false)
    (hq : ∀ m : Link, (s.links.get m).requests = [])
    (h : (requestOf code.toNat = some c ∧ c.acceptedOn .line = true) ∧ c.lengthOk 0 = true) :
    Taking c .line ⟨code, false, []⟩ (asked .line code [] s) := taking_asked _ _ _ _ _ hr hq h

/-- A plan with a FLAT run of 5,000 whose middle, 305,000, leaves the fire position just at the fire margin ahead of 0. -/
def seamPlan : List PlanEntry := [⟨.fold 4 4, 302400, 0⟩, ⟨.flat 4999 true, 302499, 0⟩, ⟨.flat 5000 true, 302500, 0⟩]

/-- RunTaken, RevolutionPulses, RollRequests, SpliceRequests: the search finds the second run, the first being two ticks short; in an
empty plan it finds none. -/
theorem test_witness_search :
    SearchFinds UnwindSettings.default 0 seamPlan 305000 ∧ ∀ x, ¬SearchFinds UnwindSettings.default 0 [] x := by
  refine ⟨⟨[⟨.fold 4 4, 302400, 0⟩, ⟨.flat 4999 true, 302499, 0⟩], ⟨.flat 5000 true, 302500, 0⟩, [], rfl,
    ⟨5000, rfl, by decide, rfl, by decide⟩, ?_⟩, ?_⟩
  · intro w hw y
    simp only [List.mem_cons, List.not_mem_nil, or_false] at hw
    rcases hw with rfl | rfl
    · rintro ⟨len, h, _⟩
      cases h
    · rintro ⟨len, h, _, hx, hm⟩
      cases h
      subst hx
      revert hm
      decide
  · rintro x ⟨before, e, behind, h, _⟩
    cases before <;> cases h

/-- RunTaken: HALTED; no roll; a RUNNING roll, with a splice DUE and without. -/
theorem test_witness_run :
    (∀ s ∈ [haltedBy .operator State.reset, State.reset, withRolls (some (aRoll .running 99)) none State.reset,
        withSplice (.due .request) (withRolls (some (aRoll .running 99)) none State.reset)],
      Taking .run .line ⟨0x01, false, []⟩ (asked .line 0x01 [] s)) ∧
      (haltedBy .operator State.reset).run.state ≠ .stopped ∧ State.reset.run.state = .stopped ∧
      rollIs .running State.reset.unwind.rolls.a = false ∧ rollIs .running State.reset.unwind.rolls.b = false ∧
      rollIs .running (some (aRoll .running 99)) = true := by
  refine ⟨?_, by decide, by decide, by decide, by decide, by decide⟩
  simp only [List.forall_mem_cons, List.not_mem_nil, false_imp_iff, implies_true, and_true]
  exact ⟨taking_line _ _ _ rfl (fun m => by cases m <;> rfl) (by decide),
    taking_line _ _ _ rfl (fun m => by cases m <;> rfl) (by decide),
    taking_line _ _ _ rfl (fun m => by cases m <;> rfl) (by decide),
    taking_line _ _ _ rfl (fun m => by cases m <;> rfl) (by decide)⟩

/-- DrainAndStopTaken: a drain already complete, one that is not, and a request outside its states. -/
theorem test_witness_drainAndStop :
    Taking .drain .line ⟨0x02, false, []⟩ (asked .line 0x02 [] (inRun .running State.reset)) ∧
      Taking .drain .line ⟨0x02, false, []⟩ (asked .line 0x02 [] (inCycle (.closing ⟨0, 2000⟩) (some ⟨0, 60, 4, 4, 60⟩))) ∧
      Taking .stop .line ⟨0x03, false, []⟩ (asked .line 0x03 [] (inCycle (.closing ⟨0, 2000⟩) (some ⟨0, 60, 4, 4, 60⟩))) ∧
      Taking .stop .line ⟨0x03, false, []⟩ (asked .line 0x03 [] State.reset) ∧
      ((inRun .running State.reset).run.state = .running ∧ (inRun .running State.reset).plan = [] ∧
        (∀ c ∈ (inRun .running State.reset).planner.contexts, c.planning = none) ∧
        (inRun .running State.reset).head.pendingFold = none) ∧
      (inCycle (.closing ⟨0, 2000⟩) (some ⟨0, 60, 4, 4, 60⟩)).head.pendingFold = some ⟨0, 60, 4, 4, 60⟩ ∧
      (inCycle (.closing ⟨0, 2000⟩) (some ⟨0, 60, 4, 4, 60⟩)).run.state = .running ∧ State.reset.run.state = .stopped :=
  ⟨taking_line _ _ _ rfl (fun m => by cases m <;> rfl) (by decide),
    taking_line _ _ _ rfl (fun m => by cases m <;> rfl) (by decide),
    taking_line _ _ _ rfl (fun m => by cases m <;> rfl) (by decide),
    taking_line _ _ _ rfl (fun m => by cases m <;> rfl) (by decide), by decide, by decide, by decide, by decide⟩

/-- HaltTaken: from STOPPED, and from HALTED with OPERATOR and without it; with a splice PLANNED and with one FIRED. -/
theorem test_witness_halt :
    (∀ s ∈ [State.reset, haltedBy .operator State.reset, haltedBy .safe State.reset,
        withSplice (.planned .request .b 9000 8000) State.reset, withSplice (.fired .request .b 9000 8000 8000 9500) State.reset],
      Taking .halt .line ⟨0x04, false, []⟩ (asked .line 0x04 [] s) ∧ HaltInv (asked .line 0x04 [] s)) ∧
      State.reset.run.state ≠ .halted ∧ (haltedBy .operator State.reset).run.causes.operator = true ∧
      (haltedBy .safe State.reset).run.causes.operator = false ∧ Cause.overrun ≠ .safe := by
  refine ⟨?_, by decide, by decide, by decide, by decide⟩
  have taken (s : State) (hr : s.inReset = false) (hq : ∀ m : Link, (s.links.get m).requests = [])
      (hi : HaltInv (asked .line 0x04 [] s)) :
      Taking .halt .line ⟨0x04, false, []⟩ (asked .line 0x04 [] s) ∧ HaltInv (asked .line 0x04 [] s) :=
    ⟨taking_line _ _ _ hr hq (by decide), hi⟩
  simp only [List.forall_mem_cons, List.not_mem_nil, false_imp_iff, implies_true, and_true]
  exact ⟨taken _ rfl (fun m => by cases m <;> rfl) (by unfold HaltInv; decide),
    taken _ rfl (fun m => by cases m <;> rfl) (by unfold HaltInv; decide),
    taken _ rfl (fun m => by cases m <;> rfl) (by unfold HaltInv; decide),
    taken _ rfl (fun m => by cases m <;> rfl) (by unfold HaltInv; decide),
    taken _ rfl (fun m => by cases m <;> rfl) (by unfold HaltInv; decide)⟩

/-- R84, R81: a halt in OPENING aborts the fold in cycle and misses the pending one, and begins the closing gap. -/
theorem test_halt_in_opening :
    let b := inCycle (.opening ⟨0, 2000⟩) (some ⟨1, 60, 4, 4, 60⟩)
    let t := addCause .reverse { b with map := { b.map with segments := [aSegment (some 0), { aSegment none with serial := 1 }] } }
    t.map.segments.map (fun g => (g.flags.abortedFold, g.missed)) = [(true, 0), (false, 1)] ∧
      t.head.cycle = .closing ⟨2000, 2000⟩ ∧ t.head.pendingFold = none ∧ t.head.inCycle = some ⟨0, 50⟩ := by decide

/-- ResumeTaken: outside HALTED; with a cause's condition true (no roll is RUNNING); with none true, SAFE in the set or not. -/
theorem test_witness_resume :
    let closing := haltedBy .operator State.reset
    let closing := { closing with head := { closing.head with cycle := .closing ⟨0, 2000⟩ } }
    (∀ s ∈ [State.reset, haltedBy .rollOut State.reset, haltedBy .operator State.reset, haltedBy .safe State.reset,
        closing],
      Taking .resume .line ⟨0x05, false, []⟩ (asked .line 0x05 [] s)) ∧
      State.reset.run.state ≠ .halted ∧ runningRoll (haltedBy .rollOut State.reset).unwind = none ∧
      (haltedBy .rollOut State.reset).run.causes.rollOut = true ∧
      (haltedBy .operator State.reset).run.causes = { CauseSet.none with operator := true } ∧
      (haltedBy .safe State.reset).run.causes = { CauseSet.none with safe := true } ∧
      (haltedBy .safe State.reset).levels.safeStop = false ∧ (haltedBy .safe State.reset).head.cycle = .idle ∧
      closing.run.state = .halted ∧ closing.head.cycle ≠ .idle := by
  intro closing_ closing
  refine ⟨?_, by decide, by decide, by decide, by decide, by decide, by decide, by decide, by decide, by decide⟩
  simp only [List.forall_mem_cons, List.not_mem_nil, false_imp_iff, implies_true, and_true]
  exact ⟨taking_line _ _ _ rfl (fun m => by cases m <;> rfl) (by decide),
    taking_line _ _ _ rfl (fun m => by cases m <;> rfl) (by decide),
    taking_line _ _ _ rfl (fun m => by cases m <;> rfl) (by decide),
    taking_line _ _ _ rfl (fun m => by cases m <;> rfl) (by decide),
    taking_line _ _ _ rfl (fun m => by cases m <;> rfl) (by decide)⟩

/-- LineClear: at rest and not; a PLANNED splice of each reason, with a roll at the reserve and one above it. -/
theorem test_witness_clearLine :
    Taking .clearLine .line ⟨0x06, false, []⟩ (asked .line 0x06 [] State.reset) ∧
      Taking .clearLine .line ⟨0x06, false, []⟩ (asked .line 0x06 [] (inRun .running State.reset)) ∧
      (producing State.reset = false ∧ producing (inRun .running State.reset) = true ∧ State.reset.plan.length < 256 ∧
        State.reset.planner.contexts.length < 256 ∧ State.reset.map.segments.length < 256) ∧
      (let s := withSlot (.retiring header0 [pleat] 1) State.reset
       s.slots[(0 : Fin 16)].number = 3 ∧ slotReleased 1 s.slots[(0 : Fin 16)] = .empty) ∧
      (∀ len ∈ [30000000, 30000001],
        let s := withSplice (.planned .reserve .b 9000 8000) (withRolls (some (aRoll .running len)) none State.reset)
        runningRoll s.unwind = some (aRoll .running len) ∧
          ((aRoll .running len).length ≤ s.unwind.settings.changeReserve ↔ len = 30000000)) :=
  ⟨taking_line _ _ _ rfl (fun m => by cases m <;> rfl) (by decide),
    taking_line _ _ _ rfl (fun m => by cases m <;> rfl) (by decide), by decide, by decide, by decide⟩

/-! ## Witnesses: the store and the queue -/

/-- The arguments of an OPEN_PATTERN of slot 15 with a registered header in range, and of one with R at 9,999. -/
def openArgs (r : Nat) : List Byte :=
  [15] ++ le 2 77 ++ le 3 r ++ le 2 2000 ++ le 2 20 ++ le 2 2000 ++ le 3 50 ++ le 3 50 ++ le 2 2000

/-- One pleat step as ADD_STEPS carries it, to slot 0, of a count: KNIFE, pitch 1,000, depths 40,000. -/
def stepArgs (count : Nat) : List Byte := le 8 ((2 ^ 2 * 1000 + 2 ^ 19 * 40000 + 2 ^ 35 * 40000 + 2 ^ 51 * count) * 16)

/-- The pool with one slot LOADING. -/
theorem pool_of_loading (st : List PatternStep) :
    poolFree (withSlot (.loading header0 st) State.reset).slots = 1024 - st.length := rfl

/-- A number in the bit string of an ADD_STEPS, as the statement reads it (R196). -/
def bitsAt (args : List Byte) (from_ width : Nat) : Nat :=
  ((List.range width).map
    (fun j => if (args.getD ((from_ + j) / 8) 0).getLsbD ((from_ + j) % 8) then 2 ^ j else 0)).sum

/-- PatternLoading: OPEN_PATTERN with a legal and an illegal header, into an EMPTY slot; ADD_STEPS of a valid and an invalid step
to a LOADING slot with room and without; CLOSE_PATTERN of a slot with a fold and of one without. -/
theorem test_witness_patternLoading :
    (Taking .openPattern .pattern ⟨0x10, false, openArgs 10000⟩ (asked .pattern 0x10 (openArgs 10000) State.reset) ∧
        field (openArgs 10000) 0 1 = (15 : Fin 16).val ∧ State.reset.slots[(15 : Fin 16)] = .empty ∧
        ((field (openArgs 10000) 3 3 = 0 ∨
            (10000 ≤ field (openArgs 10000) 3 3 ∧ field (openArgs 10000) 3 3 ≤ 2000000 ∧ 20 ≤ field (openArgs 10000) 8 2 ∧
              field (openArgs 10000) 8 2 ≤ 5000)) ∧
          field (openArgs 10000) 6 2 ≤ 2000 ∧ field (openArgs 10000) 10 2 ≤ 2000 ∧
          field (openArgs 10000) 12 3 ≤ field (openArgs 10000) 15 3 ∧ field (openArgs 10000) 18 2 ≤ 2000) ∧
        field (openArgs 9999) 3 3 = 9999) ∧
      (Taking .addSteps .pattern ⟨0x11, false, stepArgs 255⟩
          (asked .pattern 0x11 (stepArgs 255) (withSlot (.loading header0 (List.replicate 127 pleat)) State.reset)) ∧
        (0 : Fin 16).val = bitsAt (stepArgs 255) 0 4 ∧
        (withSlot (.loading header0 (List.replicate 127 pleat)) State.reset).slots[(0 : Fin 16)] =
          .loading header0 (List.replicate 127 pleat) ∧
        ((stepArgs 255).length = (4 + 59 * 1 + 7) / 8 ∧ bitsAt (stepArgs 255) 4 2 = 0 ∧ bitsAt (stepArgs 255) 6 17 = 1000 ∧
          bitsAt (stepArgs 255) 23 16 = 40000 ∧ bitsAt (stepArgs 255) 39 16 = 40000 ∧ bitsAt (stepArgs 255) 55 8 = 255) ∧
        bitsAt (stepArgs 0) 55 8 = 0 ∧
        (1 ≤ poolFree (withSlot (.loading header0 (List.replicate 127 pleat)) State.reset).slots ∧ 127 + 1 ≤ 128 ∧
          128 < 128 + 1)) ∧
      Taking .closePattern .pattern ⟨0x12, false, [0]⟩
          (asked .pattern 0x12 [0] (withSlot (.loading header0 [flatRun, pleat]) State.reset)) ∧
      (∃ x ∈ [flatRun, pleat], x.kind ≠ .flat) ∧ ∀ x ∈ [flatRun], x.kind = .flat :=
  ⟨⟨taking_asked _ _ _ _ _ rfl (fun m => by cases m <;> rfl) (by decide), by decide, by decide, by decide, by decide⟩,
    ⟨taking_asked _ _ _ _ _ rfl (fun m => by cases m <;> rfl) (by decide), by decide, by decide, by decide, by decide,
      by rw [pool_of_loading, List.length_replicate]; decide⟩,
    taking_asked _ _ _ _ _ rfl (fun m => by cases m <;> rfl) (by decide), by decide, by decide⟩

/-- PatternDiscarded: an EMPTY, a LOADING, a READY and a referenced READY slot; a slot number of 16. -/
theorem test_witness_discard :
    (∀ sl ∈ [Slot.empty, .loading header0 [pleat], .ready header0 [pleat] 0, .ready header0 [pleat] 1],
      Taking .discardPattern .pattern ⟨0x13, false, [0]⟩ (asked .pattern 0x13 [0] (withSlot sl State.reset))) ∧
      Taking .discardPattern .pattern ⟨0x13, false, [16]⟩ (asked .pattern 0x13 [16] State.reset) ∧
      15 < field [16] 0 1 ∧ field [0] 0 1 = (0 : Fin 16).val ∧ Slot.empty.number = 0 := by
  refine ⟨?_, taking_asked _ _ _ _ _ rfl (fun m => by cases m <;> rfl) (by decide), by decide, by decide, by decide⟩
  simp only [List.forall_mem_cons, List.not_mem_nil, false_imp_iff, implies_true, and_true]
  exact ⟨taking_asked _ _ _ _ _ rfl (fun m => by cases m <;> rfl) (by decide),
    taking_asked _ _ _ _ _ rfl (fun m => by cases m <;> rfl) (by decide),
    taking_asked _ _ _ _ _ rfl (fun m => by cases m <;> rfl) (by decide),
    taking_asked _ _ _ _ _ rfl (fun m => by cases m <;> rfl) (by decide)⟩

/-- PanelOrders: copies at both ends of their range, the queue with room and full; a tag that stands in the queue. -/
theorem test_witness_panelOrders :
    (∀ copies ∈ [1, 999],
      let args := [(0 : Byte)] ++ le 4 5 ++ le 2 copies
      Taking .queuePanel .pattern ⟨0x14, false, args⟩
          (asked .pattern 0x14 args (withSlot (.ready header0 [pleat] 0) State.reset)) ∧
        1 ≤ field args 5 2 ∧ field args 5 2 ≤ 999) ∧
      State.reset.orders.length < 32 ∧ 32 ≤ (List.replicate 32 (⟨0, 5, 1, 0⟩ : PanelOrder)).length ∧
      Taking .cancelPanel .pattern ⟨0x15, false, le 4 5⟩
        (asked .pattern 0x15 (le 4 5) { withSlot (.retiring header0 [pleat] 1) State.reset with orders := [⟨0, 5, 1, 0⟩] }) ∧
      ((∃ o ∈ [(⟨0, 5, 1, 0⟩ : PanelOrder)], o.tag = field (le 4 5) 0 4) ∧
        (∀ o ∈ [(⟨0, 5, 1, 0⟩ : PanelOrder)], o.tag = field (le 4 5) 0 4) ∧
        (∀ o ∈ [(⟨0, 6, 1, 0⟩ : PanelOrder)], o.tag ≠ field (le 4 5) 0 4) ∧
        ((withSlot (.retiring header0 [pleat] 1) State.reset).slots[(0 : Fin 16)].number = 3 ∧
          slotReleased 1 (withSlot (.retiring header0 [pleat] 1) State.reset).slots[(0 : Fin 16)] = .empty)) := by
  refine ⟨?_, by decide, by decide, taking_asked _ _ _ _ _ rfl (fun m => by cases m <;> rfl) (by decide), by decide, by decide⟩
  simp only [List.forall_mem_cons, List.not_mem_nil, false_imp_iff, implies_true, and_true]
  exact ⟨⟨taking_asked _ _ _ _ _ rfl (fun m => by cases m <;> rfl) (by decide), by decide⟩,
    taking_asked _ _ _ _ _ rfl (fun m => by cases m <;> rfl) (by decide), by decide⟩

/-- R26, R36, R192: a CANCEL_PANEL that empties the queue and a RETIRING slot raises both codes, in rank order, on PATTERN alone. -/
theorem test_cancel_releases :
    (match exec .cancelPanel
        (asked .pattern 0x15 (le 4 5) { withSlot (.retiring header0 [pleat] 1) State.reset with orders := [⟨0, 5, 1, 0⟩] }) with
      | .next t =>
        decide
          (t.notices.pattern.pendingSet = [.queueEmpty, .patternReleased] ∧ t.notices.unwind.pendingSet = [] ∧
            t.slots[(0 : Fin 16)] = .empty)
      | _ => false) = true := by decide

/-! ## Witnesses: heat -/

/-- A probe with a last edge at 0, stale or not. -/
def measuredProbe (stale : Bool) : Probe :=
  { Probe.fresh with lastEdge := some 0, lastPeriod := some 271, temp := 1198, stale := stale }

/-- Probe 1 with a last edge at 0, stale or not, at a line time. -/
def withProbe (stale : Bool) (t : LineTime) : State :=
  { atTime t with heat := { State.reset.heat with probes := State.reset.heat.probes.set .z1 (measuredProbe stale) } }

/-- ProbeEvents: the first edge; readings at the limit, at the limit less the hysteresis, and between; the staleness just due. -/
theorem test_witness_probeEvents :
    (State.reset.heat.probes.get .z1).lastEdge = none ∧ ((withProbe false 250000).heat.probes.get .z1).lastEdge = some 0 ∧
      250000 ≤ elapsed (withProbe false 250000).lineTime 0 ∧ ((withProbe false 0).heat.probes.get .z1).stale = false ∧
      ((withProbe true 0).heat.probes.get .z1).stale = true ∧
      (let limit := (State.reset.heat.zones.get .z1).limit
       let temp (n : Nat) := (convertPeriod CalPoint.defaultTable.toList n).1
       limit ≤ temp 200 ∧ (temp 230 < limit ∧ temp 230 ≤ limit - State.reset.heat.hysteresis) ∧
         (temp 221 < limit ∧ limit - (State.reset.heat.hysteresis : Int) < temp 221)) := by decide

/-- A zone 1 in a phase, at a line time. -/
def inPhase (p : ValvePhase) (supplyUs : Nat) (t : LineTime) : State :=
  let w : Zone := { State.reset.heat.zones.z1 with phase := p, period := ⟨0, 2000, 50, 0, supplyUs⟩ }
  { atTime t with heat := { State.reset.heat with zones := State.reset.heat.zones.set .z1 w } }

/-- ValveCycle: each phase just at its boundary. -/
theorem test_witness_valveCycle :
    (let w := (inPhase .rest 0 2000000).heat.zones.get .z1
     w.phase = .rest ∧ w.period.vMs * 1000 ≤ elapsed (inPhase .rest 0 2000000).lineTime w.period.start) ∧
    (let w := (inPhase .supply 600 600).heat.zones.get .z1
     w.phase = .supply ∧ w.period.supplyUs ≤ elapsed (inPhase .supply 600 600).lineTime w.period.start) ∧
    (let w := (inPhase .pause 600 50600).heat.zones.get .z1
     w.phase = .pause ∧
       w.period.supplyUs + w.period.gMs * 1000 ≤ elapsed (inPhase .pause 600 50600).lineTime w.period.start) ∧
    (let w := (inPhase .vent 600 1950000).heat.zones.get .z1
     w.phase = .vent ∧
       (w.period.vMs - w.period.gMs) * 1000 ≤ elapsed (inPhase .vent 600 1950000).lineTime w.period.start) := by decide

/-- DoseTick: a tick just due; a segment in zone 1, open, and between no zones; a probe stale and not; the dose max crossed. -/
theorem test_witness_doseTick :
    let s : State :=
      { withProbe false 100000 with
        carrier := { State.reset.carrier with position := 20000 }
        map := { State.reset.map with segments := [{ aSegment (some 0) with dose := 4990 }, aSegment (some 1), aSegment none] } }
    s.inReset = false ∧ 100000 ≤ elapsed s.lineTime s.heat.lastDose ∧ LiesIn s.heat .z1 (s.carrier.position - 0) ∧
      (∀ y ∈ [ZoneId.z2, .z3, .z4], ¬LiesIn s.heat y (s.carrier.position - 0)) ∧
      (∀ z ∈ [ZoneId.z1, .z2, .z3, .z4], ¬LiesIn s.heat z (s.carrier.position - 1)) ∧
      (s.heat.probes.get .z1).stale = false ∧
      ((withProbe true 0).heat.probes.get .z1).stale = true ∧
      (({ aSegment (some 0) with dose := 4990 } : Segment).dose ≤ 5000 ∧
        5000 < min (4990 + ((s.heat.probes.get .z1).temp - 1000).toNat) 16777215) := by
  unfold LiesIn
  decide

/-- The arguments of a SET_CALIBRATION of probe 4 with the default table. -/
def calArgs : List Byte :=
  [4] ++ (CalPoint.defaultTable.toList.map (fun p => le 3 p.period ++ tempBytes p.temp)).flatten

/-- The arguments of a SET_HEAT with the defaults of 8.3. -/
def heatArgs : List Byte :=
  le 2 2000 ++ le 2 50 ++ le 2 150 ++ le 2 20 ++ le 3 20000 ++ le 3 110000 ++ le 2 1600 ++ le 3 110000 ++ le 3 200000 ++
    le 2 1600 ++ le 3 200000 ++ le 3 290000 ++ le 2 1600 ++ le 3 290000 ++ le 3 380000 ++ le 2 1600

/-- HeatSettings: each request taken with arguments in range, and arguments out of range. -/
theorem test_witness_heatSettings :
    (Taking .setCalibration .line ⟨0x09, false, calArgs⟩ (asked .line 0x09 calArgs State.reset) ∧
        producing State.reset = false ∧ zoneOf (field calArgs 0 1) = some .z4 ∧
        (let period (i : Fin 8) : Nat := field calArgs (1 + 5 * i.val) 3
         let temp (i : Fin 8) : Int := tempField calArgs (4 + 5 * i.val)
         (∀ i, 1 ≤ period i ∧ period i ≤ 250000 ∧ -500 ≤ temp i ∧ temp i ≤ 3000) ∧
           ∀ i j : Fin 8, i < j → period j < period i ∧ temp i < temp j)) ∧
      (Taking .setHeat .line ⟨0x0A, false, heatArgs⟩ (asked .line 0x0A heatArgs State.reset) ∧
        (let first (i : Fin 4) : Nat := field heatArgs (8 + 8 * i.val) 3
         let bound (i : Fin 4) : Nat := field heatArgs (11 + 8 * i.val) 3
         let limit (i : Fin 4) : Int := tempField heatArgs (14 + 8 * i.val)
         (500 ≤ field heatArgs 0 2 ∧ field heatArgs 0 2 ≤ 10000) ∧ (10 ≤ field heatArgs 2 2 ∧ field heatArgs 2 2 ≤ 500) ∧
           4 * field heatArgs 2 2 ≤ field heatArgs 0 2 ∧ field heatArgs 4 2 ≤ 1000 ∧ field heatArgs 6 2 ≤ 500 ∧
           (∀ i, 1 ≤ first i ∧ first i ≤ bound i ∧ bound i ≤ State.reset.tracking.exitDistance ∧ 0 ≤ limit i ∧
             limit i ≤ 3000) ∧
           ∀ i j : Fin 4, i < j → first i < bound i → first j < bound j → bound i ≤ first j) ∧
        ¬500 ≤ field (List.replicate 40 0) 0 2) ∧
      Taking .setZoneDuty .line ⟨0x0B, false, [4] ++ le 2 1001⟩ (asked .line 0x0B ([4] ++ le 2 1001) State.reset) ∧
      Taking .setZoneDuty .line ⟨0x0B, false, [5] ++ le 2 1⟩ (asked .line 0x0B ([5] ++ le 2 1) State.reset) ∧
      zoneOf (field ([4] ++ le 2 1001) 0 1) = some .z4 ∧ zoneOf (field ([5] ++ le 2 1) 0 1) = none ∧
      (Taking .setHeat .line ⟨0x0A, false, heatArgs⟩ (asked .line 0x0A heatArgs (withProbe false 0)) ∧
        ((withProbe false 0).heat.probes.get .z1).lastPeriod ≠ none ∧ ((withProbe false 0).heat.probes.get .z1).stale = false ∧
        (State.reset.heat.probes.get .z1).lastPeriod = none) :=
  ⟨⟨taking_asked _ _ _ _ _ rfl (fun m => by cases m <;> rfl) (by decide), by decide, by decide, by decide⟩,
    ⟨taking_asked _ _ _ _ _ rfl (fun m => by cases m <;> rfl) (by decide), by decide, by decide⟩,
    taking_asked _ _ _ _ _ rfl (fun m => by cases m <;> rfl) (by decide),
    taking_asked _ _ _ _ _ rfl (fun m => by cases m <;> rfl) (by decide), by decide, by decide,
    taking_asked _ _ _ _ _ rfl (fun m => by cases m <;> rfl) (by decide), by decide, by decide, by decide⟩

/-- HeatSettings, the latch judged anew on 119.8 °C: at the limit, just below it with a hysteresis of 0 and of 2, set and clear. -/
theorem test_witness_latchJudged :
    ((1198 : Int) ≤ 1198 ∧ (1198 : Int) < 1199 ∧ (1198 : Int) ≤ 1199 - (0 : Nat) ∧ (1199 : Int) - (2 : Nat) < 1198) ∧
      ((withProbe false 0).heat.probes.get .z1).temp = 1198 ∧ (State.reset.heat.zones.get .z1).hot = false ∧
      ({ State.reset.heat.zones.z1 with hot := true } : Zone).hot = true := by decide

/-- R135, R137: a SET_HEAT whose limit a measured probe has reached sets the latch of its zone and raises ZONE_HOT. -/
theorem test_set_heat_judges :
    let args := le 2 2000 ++ le 2 50 ++ le 2 150 ++ le 2 20 ++ le 3 20000 ++ le 3 110000 ++ le 2 1198 ++ heatArgs.drop 16
    (match exec .setHeat (asked .line 0x0A args (withProbe false 0)) with
      | .next t =>
        decide ((t.heat.zones.get .z1).hot = true ∧ (t.heat.zones.get .z2).hot = false ∧ t.notices.line.pendingSet = [.zoneHot])
      | _ => false) = true := by decide

/-! ## Witnesses: unwind -/

/-- Side A running, with an open interval. -/
def unwinding (n : Nat) (spoiled : Bool) : State :=
  let s := withRolls (some (aRoll .running 99)) none State.reset
  { s with unwind := { s.unwind with interval := some ⟨n, spoiled⟩ } }

/-- RevolutionPulses: a side not running; no interval; 999 and 1,000 ticks; a spoiled interval; candidates inside and outside the
bounds; the last count that closes, and the first that overflows. -/
theorem test_witness_revolutionPulses :
    runningSide State.reset.unwind ≠ some .a ∧
      (runningSide (withRolls (some (aRoll .running 99)) none State.reset).unwind = some .a ∧
        (withRolls (some (aRoll .running 99)) none State.reset).unwind.interval = none) ∧
      (∀ n ∈ [999, 1000, 94248, 4194303],
        runningSide (unwinding n false).unwind = some .a ∧ (unwinding n false).unwind.interval = some ⟨n, false⟩ ∧
          n ≤ 4194303 ∧ (unwinding n false).unwind.rolls.get .a = some (aRoll .running 99)) ∧
      (roundHalfUp (1000 * 10000 * 113) 355000 < (aRoll .running 99).core) ∧
      (aRoll .running 99).diameter < roundHalfUp (4194303 * 10000 * 113) 355000 ∧
      ((aRoll .running 99).core ≤ roundHalfUp (94248 * 10000 * 113) 355000 ∧
        roundHalfUp (94248 * 10000 * 113) 355000 ≤ (aRoll .running 99).diameter) ∧
      (4194303 < (⟨4194304, false⟩ : RevInterval).n ∧ (unwinding 4194304 false).unwind.interval = some ⟨4194304, false⟩) := by
  decide

/-- Pulses asserted in CUTTING, the new side B. -/
def cutting (paste : Option (Side × Timer)) (knife : Option Timer) : State :=
  let s := withSplice (.cutting .request .b 9000 8000 8000 9500)
    (withRolls (some (aRoll .running 99)) (some (aRoll .ready 99)) (atTime 400000))
  { s with unwind := { s.unwind with paste := paste, knife := knife } }

/-- SplicePulsesEnd: the paster's dwell just over with the knife asserted and with it negated, and the knife's. -/
theorem test_witness_splicePulsesEnd :
    ((cutting (some (.b, ⟨0, 400000⟩)) (some ⟨0, 400000⟩)).unwind.paste = some (.b, ⟨0, 400000⟩) ∧
        (⟨0, 400000⟩ : Timer).dur ≤ elapsed (cutting none none).lineTime (⟨0, 400000⟩ : Timer).start ∧
        (cutting (some (.b, ⟨0, 400000⟩)) (some ⟨0, 400000⟩)).unwind.knife ≠ none) ∧
      ((cutting (some (.b, ⟨0, 400000⟩)) none).unwind.splice = .cutting .request .b 9000 8000 8000 9500 ∧
        (cutting (some (.b, ⟨0, 400000⟩)) none).unwind.rolls.get .b = some (aRoll .ready 99) ∧
        (cutting (some (.b, ⟨0, 400000⟩)) none).unwind.knife = none ∧
        (cutting (some (.b, ⟨0, 400000⟩)) none).notices.unwind.subscription.roll = true) ∧
      ((cutting none (some ⟨0, 400000⟩)).unwind.paste = none ∧
        (cutting none (some ⟨0, 400000⟩)).unwind.knife = some ⟨0, 400000⟩) := by decide

/-- R166, R159: a splice that completes onto a roll at or below the change reserve is DUE again in the same event, with ROLL_LOW. -/
theorem test_completion_judges :
    let s := cutting (some (.b, ⟨0, 400000⟩)) none
    let u : State := withRolls (some (aRoll .running 99)) (some { aRoll .ready 99 with initial := 140000 }) s
    (match exec .pasteDwellExpiry u with
      | .next t =>
        decide
          (t.unwind.splice = .due .reserve ∧ t.unwind.rolls.a = some (aRoll .spent 99) ∧
            rollIs .running t.unwind.rolls.b = true ∧ Notice.spliceDone ∈ t.notices.unwind.pendingSet ∧ Notice.rollLow ∈ t.notices.unwind.pendingSet)
      | _ => false) = true := by decide

/-- A RUNNING line at the feed position 8,000 with a splice and a seam. -/
def atSplice (r : RunState) (sp : Splice) (seam : Option Nat) : State :=
  let s := withSplice sp (atFeed r 8000 0)
  { s with
    unwind := { s.unwind with seam := seam }
    head := { s.head with region := .flat 7999 8001 }
    map := { s.map with segments := [aSegment none] } }

/-- SplicePositions: a fire position just reached, RUNNING and STOPPED; a knife position just reached and one tick ahead; a seam just
reached inside the flat run and one outside it, and one tick ahead; a seam reached with a splice DUE. -/
theorem test_witness_splicePositions :
    (∀ r ∈ [RunState.running, .stopped],
      let s := atSplice r (.planned .request .b 9000 8000) none
      s.unwind.splice = .planned .request .b 9000 8000 ∧ 8000 ≤ s.feed.position ∧ 1 ≤ s.unwind.settings.knifeDelay ∧
        (producing s = true ↔ r = .running)) ∧
      ({ UnwindSettings.default with knifeDelay := 0 } : UnwindSettings).knifeDelay = 0 ∧
      (∀ kn ∈ [8000, 8001],
        let s := atSplice .running (.fired .request .b 9000 8000 8000 kn) none
        s.unwind.splice = .fired .request .b 9000 8000 8000 kn ∧ (kn ≤ s.feed.position ∨ s.feed.position < kn)) ∧
      (∀ p ∈ [7998, 8000, 8001],
        let s := atSplice .running .idle (some p)
        s.unwind.seam = some p ∧ (p ≤ s.feed.position ∨ s.feed.position < p) ∧ openSegment s = some (aSegment none) ∧
          s.head.region = .flat 7999 8001) ∧
      (let s := withRolls (some (aRoll .running 99)) (some (aRoll .ready 99)) (atSplice .running (.due .request) (some 8000))
       s.unwind.splice = .due .request ∧ s.unwind.seam = some 8000 ∧ 8000 ≤ s.feed.position ∧
         runningSide s.unwind = some .a ∧ rollIs .ready (s.unwind.rolls.get (otherSide .a)) = true ∧ producing s = true) := by
  decide

/-- SplicePositions, by a command: a forward tick reaches the fire position 8,001, no entry and no expectation. -/
theorem test_witness_splicePositions_tick :
    let s := atSplice .running (.planned .request .b 9000 8001) none
    ForwardTick true false s ∧ NoEntryReached (s.feed.position + 1) s.plan ∧
      NoMarkMissed (s.feed.position + 1) s s.marks.list ∧ s.unwind.splice = .planned .request .b 9000 8001 := by
  unfold ForwardTick NoEntryReached NoMarkMissed
  decide

/-- RevolutionPulses, the reserves: a length between the two default reserves, one above both and one below both; the other roll READY;
a splice in progress and one waiting. -/
theorem test_witness_reserves :
    let s : State := withRolls (some (aRoll .running 99)) (some (aRoll .ready 99)) State.reset
    s.unwind.splice = .idle ∧ rollIs .ready (s.unwind.rolls.get (otherSide .a)) = true ∧ s.unwind.seam = none ∧
      s.unwind.settings.endReserve < remainingLength 50000 500 140000 ∧
      remainingLength 50000 500 140000 ≤ s.unwind.settings.changeReserve ∧
      s.unwind.settings.changeReserve < remainingLength 50000 500 300000 ∧
      remainingLength 50000 500 60000 ≤ s.unwind.settings.endReserve ∧
      (Splice.fired .request .b 9000 8000 8000 9500).inProgress = true ∧ (Splice.due .request).inProgress = false := by decide

/-- A taking of an UNWIND request for side A. -/
theorem taking_unwind (c : RequestCode) (code : Byte) (args : List Byte) (s : State) (hr : s.inReset = false)
    (hq : ∀ m : Link, (s.links.get m).requests = [])
    (h : (requestOf code.toNat = some c ∧ c.acceptedOn .unwind = true) ∧ c.lengthOk args.length = true) :
    Taking c .unwind ⟨code, false, args⟩ (asked .unwind code args s) := taking_asked _ _ _ _ _ hr hq h

/-- RollRequests: the four requests on records that admit them, the smallest and the largest roll, and a side number of 2; a roll
withdrawn and one made ready with a splice DUE, the plan empty. -/
theorem test_witness_rollRequests :
    (∀ d ∈ [(10000, 50, 10001), (600000, 5000, 2000000)],
      let args := [(0 : Byte)] ++ le 3 d.1 ++ le 2 d.2.1 ++ le 3 d.2.2
      Taking .loadRoll .unwind ⟨0x18, false, args⟩ (asked .unwind 0x18 args State.reset) ∧
        sideOf (field args 0 1) = some .a ∧
        (10000 ≤ field args 1 3 ∧ field args 1 3 ≤ 600000 ∧ 50 ≤ field args 4 2 ∧ field args 4 2 ≤ 5000 ∧
          field args 1 3 + 1 ≤ field args 6 3 ∧ field args 6 3 ≤ 2000000)) ∧
      (Taking .rollReady .unwind ⟨0x19, false, [0]⟩ (asked .unwind 0x19 [0] (withRolls (some (aRoll .loaded 9)) none State.reset)) ∧
        Taking .rollReady .unwind ⟨0x19, false, [2]⟩ (asked .unwind 0x19 [2] State.reset) ∧ 1 < field [2] 0 1) ∧
      (Taking .rollWithdraw .unwind ⟨0x1A, false, [0]⟩
          (asked .unwind 0x1A [0] (withSplice (.planned .request .a 9000 8000)
            (withRolls (some (aRoll .ready 9)) (some (aRoll .running 9)) State.reset))) ∧
        runningSide (withRolls (some (aRoll .ready 9)) (some (aRoll .running 9)) State.reset).unwind = some (otherSide .a) ∧
        (Splice.planned .request .a 9000 8000).joining ≠ some .a ∧ (Splice.fired .request .a 9 8 8 9).joining = some .a) ∧
      (Taking .rollWithdraw .unwind ⟨0x1A, false, [0]⟩
          (asked .unwind 0x1A [0] (withSplice (.due .request)
            (withRolls (some (aRoll .ready 9)) (some (aRoll .running 9)) State.reset))) ∧
        (Splice.due .request).joining ≠ some .a) ∧
      (Taking .rollReady .unwind ⟨0x19, false, [0]⟩
          (asked .unwind 0x19 [0] (withSplice (.due .request)
            (withRolls (some (aRoll .loaded 9)) (some (aRoll .running 9)) (inRun .running State.reset)))) ∧
        runningSide (withRolls (some (aRoll .loaded 9)) (some (aRoll .running 9)) State.reset).unwind = some (otherSide .a) ∧
        (inRun .running State.reset).plan = []) ∧
      Taking .rollAssign .unwind ⟨0x1B, false, [0]⟩
        (asked .unwind 0x1B [0] (withRolls (some (aRoll .ready 9)) (some (aRoll .running 9)) State.reset)) ∧
      (producing State.reset = false ∧ State.reset.unwind.splice.inProgress = false) := by
  refine ⟨?_, ⟨taking_unwind _ _ _ _ rfl (fun m => by cases m <;> rfl) (by decide),
      taking_unwind _ _ _ _ rfl (fun m => by cases m <;> rfl) (by decide), by decide⟩,
    ⟨taking_unwind _ _ _ _ rfl (fun m => by cases m <;> rfl) (by decide), by decide, by decide, by decide⟩,
    ⟨taking_unwind _ _ _ _ rfl (fun m => by cases m <;> rfl) (by decide), by decide⟩,
    ⟨taking_unwind _ _ _ _ rfl (fun m => by cases m <;> rfl) (by decide), by decide, rfl⟩,
    taking_unwind _ _ _ _ rfl (fun m => by cases m <;> rfl) (by decide), by decide⟩
  simp only [List.forall_mem_cons, List.not_mem_nil, false_imp_iff, implies_true, and_true]
  exact ⟨⟨taking_unwind _ _ _ _ rfl (fun m => by cases m <;> rfl) (by decide), by decide, by decide⟩,
    taking_unwind _ _ _ _ rfl (fun m => by cases m <;> rfl) (by decide), by decide, by decide⟩

/-- The arguments of a SET_UNWIND with the defaults of 9.8. -/
def unwindArgs : List Byte :=
  le 3 300000 ++ le 3 5000 ++ le 3 2000 ++ le 3 1500 ++ le 2 400 ++ le 3 50000 ++ le 4 30000000 ++ le 4 5000000

/-- SpliceRequests: SPLICE_NOW without a roll, and with one running and the other READY or not; SET_UNWIND in range and not. -/
theorem test_witness_spliceRequests :
    (∀ s ∈ [State.reset, withRolls (some (aRoll .running 9)) none State.reset,
        withRolls (some (aRoll .running 9)) (some (aRoll .ready 9)) State.reset],
      Taking .spliceNow .unwind ⟨0x1C, false, []⟩ (asked .unwind 0x1C [] s)) ∧
      (State.reset.unwind.splice = .idle ∧ State.reset.unwind.seam = none ∧ runningSide State.reset.unwind = none) ∧
      rollIs .ready (some (aRoll .ready 9)) = true ∧
      Taking .setUnwind .unwind ⟨0x1D, false, unwindArgs⟩ (asked .unwind 0x1D unwindArgs State.reset) ∧
      (let a := unwindArgs
       (1000 ≤ field a 0 3 ∧ field a 0 3 ≤ 4000000) ∧ field a 3 3 ≤ 1000000 ∧ (2 ≤ field a 6 3 ∧ field a 6 3 ≤ 200000) ∧
         field a 9 3 ≤ 200000 ∧ (50 ≤ field a 12 2 ∧ field a 12 2 ≤ 5000) ∧
         (1000 ≤ field a 14 3 ∧ field a 14 3 ≤ 500000) ∧ field a 17 4 ≤ 1000000000 ∧ field a 21 4 ≤ field a 17 4) ∧
      ¬1000 ≤ field (List.replicate 25 0) 0 3 := by
  refine ⟨?_, by decide, by decide, taking_unwind _ _ _ _ rfl (fun m => by cases m <;> rfl) (by decide), by decide, by decide⟩
  simp only [List.forall_mem_cons, List.not_mem_nil, false_imp_iff, implies_true, and_true]
  exact ⟨taking_unwind _ _ _ _ rfl (fun m => by cases m <;> rfl) (by decide),
    taking_unwind _ _ _ _ rfl (fun m => by cases m <;> rfl) (by decide),
    taking_unwind _ _ _ _ rfl (fun m => by cases m <;> rfl) (by decide)⟩

/-! ## Witnesses: links and notices -/

/-- A LINE port past its deselection, with requests and responses. -/
def linked (requests : List QueuedRequest) (responses : List Response) : State :=
  { State.reset with
    links := State.reset.links.set .line
      { LinkPort.fresh with awaitDeselect := false, requests := requests, responses := responses } }

/-- The LINE port with a transaction in progress. -/
def transacting (phase : TransactionPhase) (requests : List QueuedRequest) (responses : List Response) : State :=
  let s := linked requests responses
  { s with links := s.links.set .line { s.links.line with transaction := some phase, overflow := true } }

/-- R177: a poll that began before a response joined the queue shows the status byte of its begin, and clears the overflow flag with
byte 0, not at its end. -/
theorem test_status_at_begin :
    (match exec (.statusPoll ⟨.line, .completes [0x00]⟩) (transacting (.opening 0xA0) [] [⟨1, .granted, []⟩]) with
      | .next t => decide (t.links.line.shifted = [0xA0] ∧ t.links.line.overflow = false)
      | _ => false) = true := by decide

/-- R178: a frame is queued at its last byte, with xSEL_n still asserted. -/
theorem test_frame_at_completion :
    (match exec (.requestFrame .line (.completes [0x0C, 1, 9])) (transacting (.opening 0x20) [] []) with
      | .next t => decide (t.links.line.requests = [⟨0x0C, false, [9]⟩] ∧ t.links.line.transaction = some .framed)
      | _ => false) = true := by decide

/-- R180: a response that joins an empty queue after the length byte 0 of a fetch stays in the queue. -/
theorem test_fetch_keeps_later_response :
    (match exec (.fetch .line (.ends 3)) (transacting (.fetching none) [] [⟨1, .granted, []⟩]) with
      | .next t => decide (t.links.line.responses = [⟨1, .granted, []⟩] ∧ t.links.line.shifted = [0, 0, 0])
      | _ => false) = true := by decide

/-- Transactions: every moment of every kind, with and without a response waiting, with and without a credit. -/
theorem test_witness_transactions :
    (State.reset.links.get .line).awaitDeselect = true ∧ (((linked [] []).links.get .line).transaction = none ∧
        ∀ first, ((linked [] []).links.get .line).transaction ≠ some (.opening first)) ∧
      (∀ phase ∈ [TransactionPhase.opening 0x20, .polled, .framed, .fetching none, .fetching (some ⟨1, .granted, []⟩)],
        ((transacting phase [] []).links.get .line).transaction = some phase) ∧
      (0x3F < (0x40 : Byte).toNat ∧ (0x40 : Byte) ≠ 0x80 ∧ 0x3F < (0xFF : Byte).toNat) ∧
      ((linked [] []).inReset = false ∧ ((linked [] []).links.get .line).awaitDeselect = false) ∧
      ((⟨1, .granted, []⟩ : Response).frame.length ≤ 3 ∧ 2 < (⟨1, .granted, []⟩ : Response).frame.length) ∧
      frameShape [0x0C, 1, 9] = .complete 0x0C false [9] ∧ frameShape [0x0C, 1] = .cutShort 0x0C ∧
      (∀ b ∈ [(0x01 : Byte), 0x3F], 1 ≤ b.toNat ∧ b.toNat ≤ 0x3F) ∧ (60 : Byte).toNat ≤ 60 ∧ 60 < (61 : Byte).toNat ∧
      ((linked [⟨1, false, []⟩] []).links.get .line).requests.length + ((linked [⟨1, false, []⟩] []).links.get .line).responses.length < 4 ∧
      4 ≤ ((linked (List.replicate 4 ⟨1, false, []⟩) []).links.get .line).requests.length +
        ((linked (List.replicate 4 ⟨1, false, []⟩) []).links.get .line).responses.length := by
  refine ⟨rfl, ⟨rfl, fun _ h => nomatch h⟩, by decide, by decide, by decide, by decide, by decide, by decide, by decide, by decide,
    by decide, by decide, by decide⟩

/-- ArbiterChoice: LINE and UNWIND with requests and no promotion; UNWIND promoted. -/
theorem test_witness_arbiterChoice :
    grantee (asked .unwind 0x34 [] (asked .line 0x34 [] State.reset)) = some .line ∧
      (let s := asked .unwind 0x34 [] (asked .line 0x34 [] State.reset)
       grantee { s with links := s.links.set .unwind { s.links.unwind with waitCount := 6 } } = some .unwind) := by decide

/-- LinkChecks: an unassigned code; one not accepted on its link; one of a wrong length; the capture empty and not. -/
theorem test_witness_linkChecks :
    (grantee (asked .line 0x0D [] State.reset) = some .line ∧ requestOf (0x0D : Byte).toNat = none) ∧
      (requestOf (0x10 : Byte).toNat = some .openPattern ∧ RequestCode.openPattern.acceptedOn .line = false) ∧
      (requestOf (0x0C : Byte).toNat = some .setLinks ∧ RequestCode.setLinks.acceptedOn .line = true ∧
        RequestCode.setLinks.lengthOk 0 = false) ∧
      (∀ row ∈ requestTable, row.code ≠ 0x0D) ∧ State.reset.capture.record = none ∧
      (recordFault .line none .truncated State.reset).capture.record ≠ none := by decide

/-- LinkRequests: SET_LINKS at both ends of its range and beyond; READ_FAULT; TAKE_REPORT with a report. -/
theorem test_witness_linkRequests :
    (∀ n ∈ [(1 : Byte), 2, 15, 16], Taking .setLinks .line ⟨0x0C, false, [n]⟩ (asked .line 0x0C [n] State.reset)) ∧
      (field [1] 0 1 < 2 ∧ 2 ≤ field [2] 0 1 ∧ field [15] 0 1 ≤ 15 ∧ 15 < field [16] 0 1) ∧
      Taking .readFault .line ⟨0x33, false, []⟩ (asked .line 0x33 [] State.reset) ∧
      Taking .takeReport .pattern ⟨0x20, false, []⟩ (asked .pattern 0x20 []
        { State.reset with exitUnit := { State.reset.exitUnit with reports := [reportOf (aSegment none) 0] } }) := by
  refine ⟨?_, by decide, taking_line _ _ _ rfl (fun m => by cases m <;> rfl) (by decide),
    taking_asked _ _ _ _ _ rfl (fun m => by cases m <;> rfl) (by decide)⟩
  simp only [List.forall_mem_cons, List.not_mem_nil, false_imp_iff, implies_true, and_true]
  exact ⟨taking_asked _ _ _ _ _ rfl (fun m => by cases m <;> rfl) (by decide),
    taking_asked _ _ _ _ _ rfl (fun m => by cases m <;> rfl) (by decide),
    taking_asked _ _ _ _ _ rfl (fun m => by cases m <;> rfl) (by decide),
    taking_asked _ _ _ _ _ rfl (fun m => by cases m <;> rfl) (by decide)⟩

/-- The power-on state with codes pending on LINE. -/
def notified : State := raise .drained (raise .safeStop State.reset)

/-- NoticeRequests: codes pending and none; class sets of 63 and of 64. -/
theorem test_witness_noticeRequests :
    Taking .takeNotice .line ⟨0x36, false, []⟩ (asked .line 0x36 [] notified) ∧
      NoticeInv (asked .line 0x36 [] notified) ∧ (notified.notices.get .line).pendingSet = [.safeStop, .drained] ∧
      (State.reset.notices.get .line).pendingSet = [] ∧
      Taking .subscribe .unwind ⟨0x35, false, [63]⟩ (asked .unwind 0x35 [63] notified) ∧ field [63] 0 1 ≤ 63 ∧
      63 < field [64] 0 1 :=
  ⟨taking_line _ _ _ rfl (fun m => by cases m <;> rfl) (by decide), fun l => by cases l <;> decide, by decide, by decide,
    taking_unwind _ _ _ _ rfl (fun m => by cases m <;> rfl) (by decide), by decide, by decide⟩

/-- ReadsChangeNothing: a READ with no index, READ_PLAN at its last index and beyond, READ_PATTERN, READ_HEAT of zones 4 and 5. -/
theorem test_witness_reads :
    Taking .readTime .unwind ⟨0x34, false, []⟩ (asked .unwind 0x34 [] State.reset) ∧
      Taking .readPlan .pattern ⟨0x2B, false, [127]⟩ (asked .pattern 0x2B [127] State.reset) ∧ field [127] 0 1 ≤ 127 ∧
      127 < field [128] 0 1 ∧ Taking .readPattern .line ⟨0x29, false, [15, 127]⟩ (asked .line 0x29 [15, 127] State.reset) ∧
      (field [15, 127] 0 1 ≤ 15 ∧ field [15, 127] 1 1 ≤ 127) ∧
      Taking .readHeat .line ⟨0x30, false, [4]⟩ (asked .line 0x30 [4] State.reset) ∧ field [4] 0 1 ≤ 4 ∧ 4 < field [5] 0 1 ∧
      Taking .readRun .line ⟨0x2E, false, []⟩ (asked .line 0x2E [] State.reset) ∧
      Taking .readStatus .line ⟨0x32, false, []⟩ (asked .line 0x32 [] State.reset) ∧
      Taking .readMap .line ⟨0x2F, false, [23]⟩ (asked .line 0x2F [23] (atCarrier 9 [aSegment none])) ∧ field [23] 0 1 ≤ 23 ∧
      23 < field [24] 0 1 ∧ 5 < 256 ^ 1 :=
  ⟨taking_unwind _ _ _ _ rfl (fun m => by cases m <;> rfl) (by decide),
    taking_asked _ _ _ _ _ rfl (fun m => by cases m <;> rfl) (by decide), by decide, by decide,
    taking_asked _ _ _ _ _ rfl (fun m => by cases m <;> rfl) (by decide), by decide,
    taking_asked _ _ _ _ _ rfl (fun m => by cases m <;> rfl) (by decide), by decide, by decide,
    taking_line _ _ _ rfl (fun m => by cases m <;> rfl) (by decide),
    taking_line _ _ _ rfl (fun m => by cases m <;> rfl) (by decide),
    taking_asked _ _ _ _ _ rfl (fun m => by cases m <;> rfl) (by decide), by decide, by decide, by decide⟩

/-! ## Witnesses: the invariants, in a running state of which each says something -/

/-- A running line: a copy planned, a panel on the carrier, a fold in STRIKE, a splice fired, zone 1 supplying, requests queued. -/
def busy : State :=
  { planningState header0 [pleat] ⟨0, 0, 0, 10, 0⟩ with
    run := { State.reset.run with state := .running }
    head := { State.reset.head with cycle := .strike ⟨0, 18000⟩, inCycle := some ⟨0, 4⟩, blade := true }
    map := ⟨[aSegment (some 0)], 1, 0, 0, 0⟩
    heat := { State.reset.heat with
      probes := State.reset.heat.probes.set .z1 { Probe.fresh with stale := false }
      zones := State.reset.heat.zones.set .z1 { State.reset.heat.zones.z1 with phase := .supply } }
    unwind := { State.reset.unwind with
      rolls := ⟨some (aRoll .running 99), some (aRoll .ready 99)⟩, splice := .fired .request .b 9 8 8 9
      paste := some (.b, ⟨0, 400000⟩) }
    links := ⟨{ LinkPort.fresh with requests := [⟨1, false, []⟩], waitCount := 5 }, LinkPort.fresh,
      { LinkPort.fresh with requests := [⟨0x34, false, []⟩], waitCount := 6 }⟩
    notices := notified.notices }

/-- HeadStaysSafe, SpliceStaysSafe, ValvesStaySafe: their premises hold of the running line, which steps. -/
theorem test_witness_safety :
    HaltInv busy ∧ HeadInv busy ∧ SpliceInv busy ∧ RollInv busy ∧ ValveInv busy ∧
      ∃ t, step { busy with pending := [.dwellEnd] } = .next t :=
  ⟨by unfold HaltInv; decide, by unfold HeadInv; decide, by unfold SpliceInv; decide, by unfold RollInv; decide,
    fun z => by cases z <;> decide, _, rfl⟩

/-- QueuesStayBounded, NoLinkStarves, PanelsAreAccounted, ReferencesBalance, PlanStaysOrdered, FactorAndNoticesKept: their premises
hold of the running line. -/
theorem test_witness_accounts :
    RoomInv busy ∧ CreditInv busy ∧ FetchInv (transacting (.fetching (some ⟨1, .granted, []⟩)) [] [⟨1, .granted, []⟩]) ∧ WaitInv busy ∧ CounterInv busy ∧ ReferenceInv busy ∧ PoolInv busy ∧ PlanInv busy ∧
      FactorInv busy ∧ NoticeInv busy := by
  refine ⟨by unfold RoomInv; decide, fun l => by cases l <;> decide,
    fun l r h => by cases l <;> cases h; rfl,
    ⟨by decide, by decide, fun l => by cases l <;> decide, by decide, by decide, by decide, by decide, by decide, by decide⟩,
    by unfold CounterInv; decide, by unfold ReferenceInv namings; decide, by unfold PoolInv; decide,
    ⟨by decide, fun e he => ⟨5, by decide, ?_⟩⟩, by unfold FactorInv; decide, fun l => by cases l <;> decide⟩
  simp only [busy, planningState, List.mem_singleton] at he
  subst he
  decide

end Sys2Proof.Tests
end

/-!
The pattern store at the resets: what POWER_ON_RESET and HARD_RESET leave of the slots, the step pool and the pending sets
(R31, R32).
-/

namespace Sys2Proof.Machine

/-! ## The reset commands -/

/-- POWER_ON_RESET takes every block's power-on values over the model's own fields, then samples SAFE_STOP_n. -/
theorem exec_powerOnReset (v : InputLevels) (s : State) :
    exec (.powerOnReset v) s =
      .next (sampleSafe ((State.afterReset 0 v (Vector.replicate 16 Slot.empty) .power).carryOver s)) := rfl

/-- HARD_RESET taken out of reset: hard-reset values over the hard-reset slots, every zone held closed. -/
theorem exec_hardReset {s : State} (h : s.inReset = false) :
    exec .hardReset s =
      .next { holdZones ((State.afterReset s.lineTime s.levels (s.slots.map Slot.hardReset) .pin).carryOver s) with
        inReset := true, resetCause := s.resetCause } := by
  change execHardReset s = _
  rw [execHardReset, if_neg (by simp [h])]

/-- Sampling SAFE_STOP_n leaves the slots alone, asserted or not (R105). -/
@[simp] theorem sampleSafe_slots (s : State) : (sampleSafe s).slots = s.slots := by
  unfold sampleSafe
  split
  case isTrue => simp
  case isFalse => rfl

/-- With SAFE_STOP_n negated the sampling does nothing (R105). -/
theorem sampleSafe_of_negated {s : State} (h : s.levels.safeStop = false) : sampleSafe s = s :=
  if_neg (by simp [h])

/-- A reset empties every link's pending set (R192). -/
@[simp] theorem freshAll_pendingSet (l : Link) : (NoticeBox.freshAll.get l).pendingSet = [] := by
  cases l <;> rfl

/-! ## The slots and the pool -/

/-- Sixteen EMPTY slots hold no step, so the pool is wholly free (R22, R31). -/
theorem poolFree_allEmpty : poolFree (Vector.replicate 16 Slot.empty) = 1024 := rfl

/-- A hard reset leaves no slot with a reference (R32). -/
@[simp] theorem hardReset_refs (sl : Slot) : sl.hardReset.refs = 0 := by
  cases sl <;> rfl

/-- A slot that is not READY becomes EMPTY at a hard reset (R32). -/
theorem hardReset_of_not_ready {sl : Slot} (h : sl.number ≠ 2) : sl.hardReset = .empty := by
  cases sl with
  | empty => rfl
  | loading header steps => rfl
  | ready header steps refs => exact absurd rfl h
  | retiring header steps refs => rfl

/-- A hard reset keeps the steps of a READY slot and of no other (R32). -/
theorem hardReset_steps (sl : Slot) : sl.hardReset.steps = (if sl.isReady then sl else .empty).steps := by
  cases sl <;> rfl

/-- What a hard reset leaves in each slot (R32). -/
theorem hardReset_slot (slots : Vector Slot 16) (i : Fin 16) :
    (∀ h st n, slots[i] = .ready h st n → (slots.map Slot.hardReset)[i] = .ready h st 0) ∧
      (slots[i].number ≠ 2 → (slots.map Slot.hardReset)[i] = .empty) ∧ (slots.map Slot.hardReset)[i].refs = 0 := by
  have hslot : (slots.map Slot.hardReset)[i] = slots[i].hardReset := by simp
  rw [hslot]
  refine ⟨?_, hardReset_of_not_ready, hardReset_refs _⟩
  intro h st n hready
  rw [hready, Slot.hardReset]

/-- Slots changed in two ways that agree on the steps hold the same number of steps. -/
theorem stepsHeld_map_congr {f g : Slot → Slot} (h : ∀ sl, (f sl).steps = (g sl).steps) (slots : Vector Slot 16) :
    stepsHeld (slots.map f) = stepsHeld (slots.map g) := by
  simp [stepsHeld, Vector.toList_map, Function.comp_def, h]

/-- After a hard reset the pool is short of the steps of the READY slots only (R22, R32). -/
theorem poolFree_hardReset (slots : Vector Slot 16) :
    poolFree (slots.map Slot.hardReset) =
      1024 - stepsHeld (slots.map (fun sl => if sl.isReady then sl else .empty)) :=
  congrArg (1024 - ·) (stepsHeld_map_congr hardReset_steps slots)

/-! ## The obligations -/

/-- Settles O4: the slots and the notices of the power-on values, which sampling SAFE_STOP_n keeps (the notices only while
the pin is negated). -/
theorem powerOnStore : Obligations.PowerOnStore := by
  intro v s
  refine ⟨_, exec_powerOnReset v s, ?_⟩
  rw [sampleSafe_slots]
  refine ⟨?_, poolFree_allEmpty, ?_⟩
  · intro i
    have hempty : (Vector.replicate 16 Slot.empty)[i] = Slot.empty := by simp
    exact ⟨hempty, congrArg Slot.refs hempty⟩
  · intro hv l
    rw [sampleSafe_of_negated hv]
    exact freshAll_pendingSet l

/-- Settles O6: the slots after the reset are the old ones through `Slot.hardReset`, taken slot by slot and in the pool's sum. -/
theorem hardResetStore : Obligations.HardResetStore := by
  intro s hs
  exact ⟨_, exec_hardReset hs, hardReset_slot s.slots, poolFree_hardReset s.slots, freshAll_pendingSet⟩

end Sys2Proof.Machine

/-!
The end of a speed gate: the feed speed it sets (R8) and the comparison of that speed with the head's ceiling (R88).
-/

namespace Sys2Proof.Machine

/-! ## The gate -/

/-- The state at the end of a gate, before the speed is compared with the ceiling (R8). -/
def speedMeasured (s : State) : State :=
  { s with
    feed := { s.feed with
      speed := if 0 < s.feed.gateCount then 100 * s.feed.gateCount.toNat else 0, gateCount := 0, gateStart := s.lineTime } }

/-- A gate's count as a speed: `Int.toNat` cuts off at 0 what R8 takes as 0. -/
theorem gateSpeed_eq (n : Int) : 100 * n.toNat = if 0 < n then 100 * n.toNat else 0 := by
  split <;> omega

/-- SPEED_GATE_END taken when its gate is over: it measures the speed and judges it. -/
theorem exec_speedGateEnd {s : State} (hr : s.inReset = false) (hd : 10000 ≤ elapsed s.lineTime s.feed.gateStart) :
    exec .speedGateEnd s = .next (judgeSpeed (speedMeasured s)) := by
  change execSpeedGateEnd s = _
  rw [execSpeedGateEnd, if_neg (by simp [hr, speedGateDue, hd]), gateSpeed_eq]
  rfl

/-! ## The over-ceiling count -/

theorem countTo_of_lt {bound n : Nat} (h : n < bound) : countTo bound n = n + 1 := if_pos h

/-- The third gate above the ceiling, and each one after it, finds or leaves the count at 3. -/
theorem countTo_three {n : Nat} (h : n = 2 ∨ n = 3) : countTo 3 n = 3 := by
  rcases h with rfl | rfl <;> rfl

/-! ## The comparison with the ceiling (R88) -/

/-- Judging the speed touches the head and the notices only. -/
theorem judgeSpeed_eq_head_notices (s : State) :
    judgeSpeed s = { s with head := (judgeSpeed s).head, notices := (judgeSpeed s).notices } := by
  simp only [judgeSpeed]
  split
  · split <;> rfl
  · rfl

/-- Not above the ceiling: the count starts again and SPEED_HIGH is armed. -/
theorem judgeSpeed_of_le {s : State} (h : s.feed.speed ≤ s.head.ceiling) :
    judgeSpeed s = { s with head := { s.head with overCount := 0, armed := true } } :=
  if_neg (Nat.not_lt.mpr h)

/-- The first and the second gate above the ceiling only count. -/
theorem judgeSpeed_of_few {s : State} (h : s.head.ceiling < s.feed.speed) (hc : s.head.overCount < 2) :
    judgeSpeed s = { s with head := { s.head with overCount := s.head.overCount + 1 } } := by
  have hne : ¬(s.head.overCount + 1 = 3 ∧ s.head.armed = true) := by omega
  simp only [judgeSpeed, if_pos h, countTo_of_lt (Nat.lt_succ_of_lt hc), if_neg hne]

/-- A third gate above the ceiling raises SPEED_HIGH when it is armed, and disarms it. -/
theorem judgeSpeed_of_third_armed {s : State} (h : s.head.ceiling < s.feed.speed)
    (hc : s.head.overCount = 2 ∨ s.head.overCount = 3) (ha : s.head.armed = true) :
    judgeSpeed s = raise .speedHigh { s with head := { s.head with overCount := 3, armed := false } } := by
  simp [judgeSpeed, h, countTo_three hc, ha]

/-- A third gate above the ceiling raises nothing while SPEED_HIGH is disarmed. -/
theorem judgeSpeed_of_third_disarmed {s : State} (h : s.head.ceiling < s.feed.speed)
    (hc : s.head.overCount = 2 ∨ s.head.overCount = 3) (ha : s.head.armed = false) :
    judgeSpeed s = { s with head := { s.head with overCount := 3 } } := by
  simp [judgeSpeed, h, countTo_three hc, ha]

/-! ## The obligation -/

/-- Settles O12: the gate's end is the measured speed judged, and the judgement is taken case by case of the ceiling, the
count and the arming. -/
theorem speedGateEnd : Obligations.SpeedGateEnd := by
  intro s hr hd
  have hfeed : (judgeSpeed (speedMeasured s)).feed = (speedMeasured s).feed := by simp
  refine ⟨_, exec_speedGateEnd hr hd, ?_, hfeed, ?_, ?_⟩
  · rw [hfeed]
    exact judgeSpeed_eq_head_notices (speedMeasured s)
  · intro hle
    replace hle : (speedMeasured s).feed.speed ≤ (speedMeasured s).head.ceiling := hfeed ▸ hle
    rw [judgeSpeed_of_le hle]
    exact ⟨rfl, rfl⟩
  · intro hlt
    replace hlt : (speedMeasured s).head.ceiling < (speedMeasured s).feed.speed := hfeed ▸ hlt
    refine ⟨fun hc => ?_, fun hc ha => ?_, fun hc ha => ?_⟩
    · rw [judgeSpeed_of_few hlt hc]
      exact ⟨rfl, rfl⟩
    · rw [judgeSpeed_of_third_armed hlt hc ha]
      exact ⟨rfl, rfl⟩
    · rw [judgeSpeed_of_third_disarmed hlt hc ha]
      exact ⟨rfl, rfl⟩

end Sys2Proof.Machine

/-!
HALT (R101): the addition of OPERATOR, whatever the run state, and the cause byte that its response reports.
-/

namespace Sys2Proof.Machine

/-! ## The cause byte (12.4) -/

/-- Bits written from bit 0 give a number below the power of two of their count. -/
theorem bitsOf_lt (bs : List Bool) : bitsOf bs < 2 ^ bs.length := by
  induction bs with
  | nil => exact Nat.one_pos
  | cons b bs ih =>
    have hb : b.toNat < 2 := Bool.toNat_lt b
    simp only [bitsOf, List.length_cons, pow_succ]
    omega

/-- The eight causes fit the cause byte. -/
theorem causeSet_bits_lt (c : CauseSet) : c.bits < 256 := by
  rw [CauseSet.bits]
  exact (bitsOf_lt _).trans_eq (by norm_num)

/-- A field of one byte that its value fits is that byte (R197). -/
theorem num_one {n : Nat} (h : n < 256) : num 1 n = [BitVec.ofNat 8 n] := if_pos h

/-! ## The cause set after an addition (R93, R94) -/

theorem causeSet_add_of_has {c : CauseSet} {x : Cause} (h : c.has x = true) : c.add x = c := by
  obtain ⟨safe, operator, overrun, reverse, mapFull, rollOut, spliceFail, positionEnd⟩ := c
  cases x <;> cases h <;> rfl

/-- An addition makes the set the old one with the cause, also where the cause was in it. -/
theorem addCause_causes (c : Cause) (s : State) : (addCause c s).run.causes = s.run.causes.add c := by
  by_cases h : s.run.causes.has c = true
  · rw [addCause_of_has c s h, causeSet_add_of_has h]
  · exact (addCause_run c s (Bool.eq_false_of_not_eq_true h)).2

/-- With the set and the run state in accord before it, an addition leaves the line HALTED: no set with a cause added is empty. -/
theorem addCause_halted {s : State} (c : Cause) (h : HaltInv s) : (addCause c s).run.state = .halted :=
  (addCause_haltInv c s h).mpr (addCause_causes c s ▸ causeSet_add_ne_none _ c)

/-- In HALTED an addition of a cause not yet in the set touches the set and the notices only (R94). -/
theorem addCause_of_halted {c : Cause} {s : State} (hc : s.run.causes.has c = false) (hs : s.run.state = .halted) :
    addCause c s =
      { s with run := { s.run with causes := s.run.causes.add c }, notices := (raise .halted s).notices } := by
  rw [addCause, if_neg (by simp [hc]), if_pos hs]
  rfl

/-- Outside HALTED an addition of a cause not in the set enters HALTED (R94, R95). -/
theorem addCause_of_not_halted {c : Cause} {s : State} (hsafe : c ≠ .safe) (hc : s.run.causes.has c = false)
    (hs : s.run.state ≠ .halted) : addCause c s = haltEntered c s := by
  rw [addCause_eq c s hsafe, causeAdded, if_neg (by simp [hc]), if_neg hs]

/-! ## The splice at an entry into HALTED (R163) -/

theorem dueAgain_of_not_planned {sp : Splice} (h : ∀ d i x f, sp ≠ .planned d i x f) : dueAgain sp = sp := by
  cases sp with
  | planned d i x f => exact absurd rfl (h d i x f)
  | idle => rfl
  | due d => rfl
  | fired d i x f fa kn => rfl
  | cutting d i x f fa kn => rfl

/-! ## The request -/

/-- A HALT that its link's checks pass comes from LINE and carries no argument (12.3). -/
theorem line_noArgs_of_taking_halt {l : Link} {r : QueuedRequest} {s : State} (h : Taking .halt l r s) :
    l = .line ∧ r.args = [] := by
  obtain ⟨-, -, -, -, hlink, -, hlength⟩ := h
  exact ⟨eq_of_beq hlink, List.length_eq_zero_iff.mp (eq_of_beq hlength)⟩

/-- HALT has no refusal of its own: it adds OPERATOR and answers with the set as it then stands (R101). -/
theorem exec_halt {l : Link} {r : QueuedRequest} {s : State} (h : Taking .halt l r s) :
    exec .halt s =
      .next (respond l r.code .granted [BitVec.ofNat 8 (addCause .operator (grant l s)).run.causes.bits]
        (addCause .operator (grant l s))) := by
  change execHalt s = _
  rw [execHalt, takeRequest_of_taking _ _ _ _ _ h, ruleHalt, conclude_granted, num_one (causeSet_bits_lt _)]

/-! ## The obligation -/

/-- Settles O30: HALT is the addition of OPERATOR after the grant, taken case by case: OPERATOR in the set already, HALTED for
another cause, and an entry into HALTED, where the splice is PLANNED or not. -/
theorem haltTaken : Obligations.HaltTaken := by
  refine ⟨fun s l r htake hinv => ?_, addCause_eq⟩
  obtain ⟨hline, hargs⟩ := line_noArgs_of_taking_halt htake
  refine ⟨hline, hargs, addCause .operator (grant l s), exec_halt htake, addCause_causes _ _, addCause_halted _ hinv,
    fun hop _ => addCause_of_has _ _ hop, fun hop => ?_⟩
  have hnew : (grant l s).run.causes.has .operator = false := hop
  by_cases hs : s.run.state = .halted
  case pos =>
    rw [addCause_of_halted hnew hs]
    exact ⟨rfl, fun _ => rfl, fun hn => absurd hs hn⟩
  case neg =>
    rw [addCause_of_not_halted (by decide) hnew hs]
    refine ⟨rfl, fun h => absurd h hs, fun _ => ⟨rfl, fun d i x f hplanned => ?_, fun hnot => ?_⟩⟩
    · exact congrArg dueAgain hplanned
    · exact congrArg (fun sp => { s.unwind with splice := sp }) (dueAgain_of_not_planned hnot)

end Sys2Proof.Machine

/-!
The notices on the links: TAKE_NOTICE (R193) and SUBSCRIBE (R194), over the facts of a pending set in rank order (R190, R192)
and of the class byte (12.4).
-/

namespace Sys2Proof.Machine

/-! ## The codes and a set in rank order (R190, R192) -/

theorem rank_le (n : Notice) : n.rank ≤ 19 := by
  cases n <;> decide

/-- R190: the class of each code. -/
theorem classSet_holds_eq (c : ClassSet) (n : Notice) :
    c.holds n =
      if n = .safeStop then true
      else if n ∈ [Notice.halted, .drained, .speedHigh, .lateFold] then c.run
      else if n ∈ [Notice.spliceFailed, .rollLow, .splicePlanned, .spliceDone, .seamPassed, .diameterStale] then c.roll
      else if n ∈ [Notice.zoneHot, .probeStale, .overSet] then c.heat
      else if n ∈ [Notice.queueEmpty, .regLost, .reportReady, .patternReleased] then c.flow
      else c.link := by
  cases n <;> rfl

/-- The front of a set in rank order is its highest-ranked code (R190, R193). -/
theorem rank_front_le {n : Notice} {rest : List Notice} (h : ((n :: rest).map Notice.rank).Pairwise (· < ·)) :
    ∀ m ∈ n :: rest, n.rank ≤ m.rank := by
  rw [List.map_cons, List.pairwise_cons] at h
  intro m hm
  rcases List.mem_cons.mp hm with rfl | hm
  · exact Nat.le_refl _
  · exact Nat.le_of_lt (h.1 _ (List.mem_map_of_mem hm))

/-- A set in strict rank order holds each code at most once, so its size fits a byte. -/
theorem length_lt_of_ranked {ns : List Notice} (h : (ns.map Notice.rank).Pairwise (· < ·)) : ns.length < 256 := by
  have hnodup : (ns.map Notice.rank).Nodup := h.imp Nat.ne_of_lt
  have hsub : ns.map Notice.rank ⊆ List.range 20 := by
    intro k hk
    obtain ⟨n, -, rfl⟩ := List.mem_map.mp hk
    exact List.mem_range.mpr (Nat.lt_succ_of_le (rank_le n))
  have hlen := (List.subperm_of_subset hnodup hsub).length_le
  rw [List.length_map, List.length_range] at hlen
  omega

/-! ## The class byte (R191, R194) -/

theorem bitsOf_eq_bit (b : Bool) (bs : List Bool) : bitsOf (b :: bs) = Nat.bit b (bitsOf bs) := by
  rw [bitsOf, Nat.bit_val, Nat.add_comm]

/-- Bits written from bit 0 are read back at their places. -/
theorem testBit_bitsOf (bs : List Bool) (i : Nat) : (bitsOf bs).testBit i = bs.getD i false := by
  induction bs generalizing i with
  | nil => simp [bitsOf]
  | cons b bs ih =>
    rw [bitsOf_eq_bit]
    cases i with
    | zero => simp
    | succ i => simp [Nat.testBit_bit_succ, ih]

/-- The subscription of a class byte has a class exactly where the byte has its bit. -/
theorem classSet_ofByte_ofNat (v : Nat) :
    ClassSet.ofByte (BitVec.ofNat 8 v) = ⟨v.testBit 1, v.testBit 2, v.testBit 3, v.testBit 4, v.testBit 5⟩ := by
  simp only [ClassSet.ofByte, BitVec.getLsbD_ofNat, Nat.reduceLT, decide_true, Bool.true_and]

/-- A class byte of the six classes is stored as it is, with SAFETY in it whether or not it names SAFETY (R194). -/
theorem classSet_bits_ofByte {v : Nat} (h : v ≤ 63) : (ClassSet.ofByte (BitVec.ofNat 8 v)).bits = v ||| 1 := by
  apply Nat.eq_of_testBit_eq
  intro i
  rw [classSet_ofByte_ofNat, ClassSet.bits, testBit_bitsOf, Nat.testBit_or]
  match i with
  | 0 => simp
  | 1 | 2 | 3 | 4 | 5 => simp [Nat.testBit_succ]
  | j + 6 =>
    have hv : v.testBit (j + 6) = false :=
      Nat.testBit_lt_two_pow (Nat.lt_of_le_of_lt h (Nat.pow_le_pow_right Nat.two_pos (Nat.le_add_left 6 j)))
    simp [hv, Nat.testBit_succ 1]

/-! ## The requests -/

/-- The state after the grant to a link, with that link's box of notices replaced: what both requests leave. -/
def grantedBox (l : Link) (b : NoticeBox) (s : State) : State := { grant l s with notices := s.notices.set l b }

@[simp] theorem grantedBox_get (l : Link) (b : NoticeBox) (s : State) : (grantedBox l b s).notices.get l = b :=
  perLink_get_set _ _ _

theorem grantedBox_get_other (l : Link) (b : NoticeBox) (s : State) :
    ∀ m, m ≠ l → (grantedBox l b s).notices.get m = s.notices.get m :=
  fun m hm => perLink_get_set_other _ _ m _ hm

/-- TAKE_NOTICE with nothing pending on its link answers NONE (R193). -/
theorem exec_takeNotice_of_empty {l : Link} {r : QueuedRequest} {s : State} (h : Taking .takeNotice l r s)
    (he : (s.notices.get l).pendingSet = []) :
    exec .takeNotice s = .next (respond l r.code .granted [0, 0] (grant l s)) := by
  change execTakeNotice s = _
  rw [execTakeNotice, takeRequest_of_taking _ _ _ _ _ h, ruleTakeNotice, grant_notices, he, conclude_granted]

/-- TAKE_NOTICE with codes pending takes the front of its link's set (R193). -/
theorem exec_takeNotice_of_cons {l : Link} {r : QueuedRequest} {s : State} {n : Notice} {rest : List Notice}
    (h : Taking .takeNotice l r s) (hp : (s.notices.get l).pendingSet = n :: rest) :
    exec .takeNotice s =
      .next (respond l r.code .granted (num 1 n.rank ++ num 1 rest.length)
        (grantedBox l { s.notices.get l with pendingSet := rest } s)) := by
  change execTakeNotice s = _
  rw [execTakeNotice, takeRequest_of_taking _ _ _ _ _ h, ruleTakeNotice, grant_notices, hp, conclude_granted]
  rfl

/-- SUBSCRIBE with a bit above the six classes is refused (R194). -/
theorem exec_subscribe_of_beyond {l : Link} {r : QueuedRequest} {s : State} (h : Taking .subscribe l r s)
    (hv : 63 < field r.args 0 1) : exec .subscribe s = .next (refuse l r.code .range (grant l s)) := by
  change execSubscribe s = _
  rw [execSubscribe, takeRequest_of_taking _ _ _ _ _ h, ruleSubscribe, if_pos hv, conclude_refused]

/-- SUBSCRIBE within the six classes stores the classes named and keeps the pending codes inside them (R194). -/
theorem exec_subscribe_of_classes {l : Link} {r : QueuedRequest} {s : State} (h : Taking .subscribe l r s)
    (hv : field r.args 0 1 ≤ 63) :
    let new := (s.notices.get l).resubscribed (ClassSet.ofByte (BitVec.ofNat 8 (field r.args 0 1)))
    exec .subscribe s =
      .next (respond l r.code .granted
        (num 1 (field r.args 0 1 ||| 1) ++ num 1 ((s.notices.get l).pendingSet.length - new.pendingSet.length))
        (grantedBox l new s)) := by
  change execSubscribe s = _
  rw [execSubscribe, takeRequest_of_taking _ _ _ _ _ h, ruleSubscribe, if_neg (Nat.not_lt.mpr hv), conclude_granted,
    classSet_bits_ofByte hv, grant_notices]
  rfl

/-! ## The obligation -/

/-- Settles O49: a set in rank order has its highest-ranked code at the front, where TAKE_NOTICE takes it, and SUBSCRIBE puts
the classes of its byte over its own link's box. -/
theorem noticeRequests : Obligations.NoticeRequests := by
  refine ⟨fun l n => ⟨by cases l <;> rfl, by cases l <;> rfl, beq_iff_eq, beq_iff_eq⟩,
    fun n s => ⟨rfl, delivered_raise n s⟩, by decide, classSet_holds_eq, fun s l r htake hinv => ?_, fun s l r htake => ?_⟩
  case refine_1 =>
    refine ⟨exec_takeNotice_of_empty htake, fun hne => ?_⟩
    obtain ⟨n, rest, hp⟩ := List.exists_cons_of_ne_nil hne
    have hranked : ((n :: rest).map Notice.rank).Pairwise (· < ·) := hp ▸ (hinv l).2
    have hrank : n.rank < 256 := Nat.lt_of_le_of_lt (rank_le n) (by decide)
    have hrest : rest.length < 256 := length_lt_of_ranked (List.Pairwise.of_cons hranked)
    have hexec := exec_takeNotice_of_cons htake hp
    rw [num_one hrank, num_one hrest] at hexec
    refine ⟨n, grantedBox l { s.notices.get l with pendingSet := rest } s, ?_, ?_, ?_, rfl, ?_,
      grantedBox_get_other l _ s⟩
    · rw [hexec, grantedBox_get]
      rfl
    · rw [hp]
      exact List.mem_cons_self
    · rw [hp]
      exact rank_front_le hranked
    · rw [grantedBox_get, hp, List.erase_cons_head]
  case refine_2 =>
    refine ⟨exec_subscribe_of_beyond htake, fun hv => ?_⟩
    refine ⟨grantedBox l ((s.notices.get l).resubscribed (ClassSet.ofByte (BitVec.ofNat 8 (field r.args 0 1)))) s,
      ?_, rfl, ?_, ?_, grantedBox_get_other l _ s⟩
    · rw [exec_subscribe_of_classes htake hv, grantedBox_get]
    · rw [grantedBox_get, NoticeBox.resubscribed, classSet_ofByte_ofNat]
    · rw [grantedBox_get, NoticeBox.resubscribed]

end Sys2Proof.Machine

/-!
What every event keeps: the invariants of Safety.lean, taken together as one relation between the state before and the state after
(`Sound`), which composes along the operations an event is made of. Each invariant reads few fields, so an operation that leaves
them alone keeps it.
-/

namespace Sys2Proof.Machine

/-! ## What each invariant reads -/

theorem haltInv_congr {s t : State} (h : t.run = s.run) (hs : HaltInv s) : HaltInv t := by
  rw [HaltInv, h]
  exact hs

theorem headInv_congr {s t : State} (h : t.head = s.head) (hc : t.run.causes = s.run.causes) (hs : HeadInv s) :
    HeadInv t := by
  rw [HeadInv, h, hc]
  exact hs

theorem spliceInv_congr {s t : State} (h : t.unwind = s.unwind) (hc : t.run.causes = s.run.causes) (hs : SpliceInv s) :
    SpliceInv t := by
  rw [SpliceInv, h, hc]
  exact hs

theorem rollInv_congr {s t : State} (h : t.unwind = s.unwind) (hs : RollInv s) : RollInv t := by
  rw [RollInv, h]
  exact hs

theorem valveInv_congr {s t : State} (h : t.heat = s.heat) (hc : t.run.causes = s.run.causes) (hs : ValveInv s) :
    ValveInv t := by
  rw [ValveInv, h, hc]
  exact hs

/-- The bounds of the queues are kept where no queue grows. -/
theorem roomInv_congr {s t : State} (ho : t.orders.length ≤ s.orders.length)
    (hc : t.planner.contexts.length ≤ s.planner.contexts.length) (hp : t.plan.length ≤ s.plan.length)
    (hm : t.marks.list.length ≤ s.marks.list.length) (hg : t.map.segments.length ≤ s.map.segments.length)
    (hr : t.exitUnit.reports.length ≤ s.exitUnit.reports.length) (hs : RoomInv s) : RoomInv t := by
  obtain ⟨orders, contexts, plan, marks, segments, reports⟩ := hs
  exact ⟨ho.trans orders, hc.trans contexts, hp.trans plan, hm.trans marks, hg.trans segments, hr.trans reports⟩

theorem creditInv_congr {s t : State} (h : t.links = s.links) (hs : CreditInv s) : CreditInv t := by
  rw [CreditInv, h]
  exact hs

theorem fetchInv_congr {s t : State} (h : t.links = s.links) (hs : FetchInv s) : FetchInv t := by
  rw [FetchInv, h]
  exact hs

theorem waitInv_congr {s t : State} (h : t.links = s.links) (hn : t.starvation = s.starvation) (hs : WaitInv s) :
    WaitInv t := by
  rw [WaitInv, h, hn]
  exact hs

/-- The balance of R116 reads the four counters and the number of segments. -/
theorem counterInv_congr {s t : State} (hl : t.map.segments.length = s.map.segments.length)
    (hs : t.map.started = s.map.started) (hr : t.map.reported = s.map.reported) (hd : t.map.dropped = s.map.dropped)
    (hc : t.map.cleared = s.map.cleared) (h : CounterInv s) : CounterInv t := by
  rw [CounterInv, hl, hs, hr, hd, hc]
  exact h

theorem planInv_congr {s t : State} (hp : t.plan = s.plan) (hl : t.planner.lastAppended = s.planner.lastAppended)
    (hs : PlanInv s) : PlanInv t := by
  rw [PlanInv, hp, hl]
  exact hs

theorem factorInv_congr {s t : State} (h : t.marks.k = s.marks.k) (hs : FactorInv s) : FactorInv t := by
  rw [FactorInv, h]
  exact hs

theorem noticeInv_congr {s t : State} (h : t.notices = s.notices) (hs : NoticeInv s) : NoticeInv t := by
  rw [NoticeInv, h]
  exact hs

/-! ## The relation -/

/-- Each invariant that holds before holds after, those that need the accord of HALTED with the causes (R93) under it, and the
waiting commands stand. -/
structure Sound (s t : State) : Prop where
  halt : HaltInv s → HaltInv t
  head : HaltInv s → HeadInv s → HeadInv t
  splice : HaltInv s → SpliceInv s → SpliceInv t
  roll : RollInv s → RollInv t
  valve : ValveInv s → ValveInv t
  room : RoomInv s → RoomInv t
  credit : CreditInv s → CreditInv t
  fetch : FetchInv s → FetchInv t
  wait : WaitInv s → WaitInv t
  counter : CounterInv s → CounterInv t
  plan : PlanInv s → PlanInv t
  factor : FactorInv s → FactorInv t
  notice : NoticeInv s → NoticeInv t
  pending : t.pending = s.pending

/-- An update that touches one part of the state is written `{ Sound.refl s with … }`, with the invariants that read that part: the
others hold of both states by the same proof. -/
theorem Sound.refl (s : State) : Sound s s :=
  ⟨id, fun _ => id, fun _ => id, id, id, id, id, id, id, id, id, id, id, rfl⟩

/-- The parts of the state that an invariant reads are the same, and no queue is longer. -/
def Alike (s t : State) : Prop :=
  (t.run = s.run ∧ t.head = s.head ∧ t.unwind = s.unwind ∧ t.heat = s.heat) ∧
  (t.orders.length ≤ s.orders.length ∧ t.planner.contexts.length ≤ s.planner.contexts.length ∧
    t.marks.list.length ≤ s.marks.list.length ∧ t.exitUnit.reports.length ≤ s.exitUnit.reports.length) ∧
  (t.map.segments.length = s.map.segments.length ∧ t.map.started = s.map.started ∧ t.map.reported = s.map.reported ∧
    t.map.dropped = s.map.dropped ∧ t.map.cleared = s.map.cleared) ∧
  (t.plan = s.plan ∧ t.planner.lastAppended = s.planner.lastAppended ∧ t.marks.k = s.marks.k) ∧
  t.links = s.links ∧ t.starvation = s.starvation ∧ t.notices = s.notices ∧ t.pending = s.pending

theorem Alike.sound {s t : State} (h : Alike s t) : Sound s t := by
  obtain ⟨⟨run, head, unwind, heat⟩, ⟨orders, contexts, marks, reports⟩, ⟨segments, started, reported, dropped, cleared⟩,
    ⟨plan, last, k⟩, links, starvation, notices, pending⟩ := h
  have causes : t.run.causes = s.run.causes := congrArg RunControl.causes run
  exact {
    halt := haltInv_congr run
    head := fun _ => headInv_congr head causes
    splice := fun _ => spliceInv_congr unwind causes
    roll := rollInv_congr unwind
    valve := valveInv_congr heat causes
    room := roomInv_congr orders contexts (congrArg List.length plan).le marks segments.le reports
    credit := creditInv_congr links
    fetch := fetchInv_congr links
    wait := waitInv_congr links starvation
    counter := counterInv_congr segments started reported dropped cleared
    plan := planInv_congr plan last
    factor := factorInv_congr k
    notice := noticeInv_congr notices
    pending := pending }

theorem Sound.trans {s t u : State} (h : Sound s t) (k : Sound t u) : Sound s u where
  halt := fun i => k.halt (h.halt i)
  head := fun i j => k.head (h.halt i) (h.head i j)
  splice := fun i j => k.splice (h.halt i) (h.splice i j)
  roll := fun i => k.roll (h.roll i)
  valve := fun i => k.valve (h.valve i)
  room := fun i => k.room (h.room i)
  credit := fun i => k.credit (h.credit i)
  fetch := fun i => k.fetch (h.fetch i)
  wait := fun i => k.wait (h.wait i)
  counter := fun i => k.counter (h.counter i)
  plan := fun i => k.plan (h.plan i)
  factor := fun i => k.factor (h.factor i)
  notice := fun i => k.notice (h.notice i)
  pending := k.pending.trans h.pending

/-- Visits that are each sound are sound in whatever order they come (log 4). -/
theorem sound_runVisits {fs : List (State → State)} (h : ∀ f ∈ fs, ∀ t, Sound t (f t)) (s : State) :
    Sound s (runVisits s fs) :=
  runVisits_keeps (Sound s) fs (fun f hf t hst => hst.trans (h f hf t)) s
    (Alike.sound (by simp [Alike])) (Sound.refl s)

/-- A choice between a sound operation and none. -/
theorem sound_ite {s : State} {p : Prop} {_ : Decidable p} {t u : State} (ht : p → Sound s t) (hu : ¬p → Sound s u) :
    Sound s (if p then t else u) := by
  split
  case isTrue h => exact ht h
  case isFalse h => exact hu h

/-! ## Notices and records -/

theorem noticeInv_deliver (n : Notice) {b : NoticeBox}
    (h : (∀ m ∈ b.pendingSet, b.subscription.holds m = true) ∧ (b.pendingSet.map Notice.rank).Pairwise (· < ·)) :
    (∀ m ∈ (b.deliver n).pendingSet, (b.deliver n).subscription.holds m = true) ∧
      ((b.deliver n).pendingSet.map Notice.rank).Pairwise (· < ·) := by
  constructor
  · intro m hm
    rw [deliver_subscription]
    rcases (mem_deliver' n m b).mp hm with hold | ⟨-, hnew⟩
    · exact h.1 m hold
    · exact hnew
  · unfold NoticeBox.deliver
    split
    · exact pairwise_insertRanked n _ h.2
    · exact h.2

theorem sound_raise (n : Notice) (s : State) : Sound s (raise n s) :=
  { Sound.refl s with
    notice := fun h l => by
      rw [raise_notices_get]
      exact noticeInv_deliver n (h l) }

theorem sound_recordFault (l : Link) (code : Option Byte) (r : ResultCode) (s : State) :
    Sound s (recordFault l code r s) := by
  unfold recordFault
  split
  · exact Alike.sound (by simp [Alike])
  · exact Sound.trans (Alike.sound (by simp [Alike])) (sound_raise .faultCaptured _)

@[simp] theorem onSegment_counters (n : Serial) (f : Segment → Segment) (s : State) :
    (onSegment n f s).map.started = s.map.started ∧ (onSegment n f s).map.reported = s.map.reported ∧
      (onSegment n f s).map.dropped = s.map.dropped ∧ (onSegment n f s).map.cleared = s.map.cleared :=
  ⟨rfl, rfl, rfl, rfl⟩

theorem sound_onSegment (n : Serial) (f : Segment → Segment) (s : State) : Sound s (onSegment n f s) :=
  Alike.sound (by simp [Alike])

theorem sound_flagSegment (n : Serial) (f : PanelFlag) (s : State) : Sound s (flagSegment n f s) := sound_onSegment _ _ _

theorem sound_flagPanel (n : Serial) (f : PanelFlag) (s : State) : Sound s (flagPanel n f s) :=
  sound_ite (fun _ => Alike.sound (by simp [Alike])) (fun _ => sound_flagSegment n f s)

theorem sound_missFold (n : Serial) (s : State) : Sound s (missFold n s) := sound_onSegment _ _ _

theorem sound_abortFold (s : State) : Sound s (abortFold s) := by
  unfold abortFold
  split
  · exact Sound.refl s
  · exact sound_flagSegment _ _ s

/-! ## The head's own updates -/

/-- An update of the head alone is sound where it keeps the head's invariant. -/
theorem sound_head {s : State} {h : Head} (k : HaltInv s → HeadInv s → HeadInv { s with head := h }) :
    Sound s { s with head := h } :=
  { Sound.refl s with head := k }

/-- An update of the head that leaves what its invariant reads. -/
theorem headInv_same {s : State} {h : Head} (hs : HeadInv s) (hb : h.blade = s.head.blade) (hy : h.cycle = s.head.cycle)
    (hl : h.clamp = s.head.clamp) (hi : h.inCycle = s.head.inCycle) (hp : h.pendingFold = s.head.pendingFold)
    (hw : h.strokeW = s.head.strokeW) (hh : h.strokeH = s.head.strokeH) : HeadInv { s with head := h } := by
  simp only [HeadInv, hb, hy, hl, hi, hp, hw, hh]
  exact hs

/-- A fold no longer pends: nothing else of the head's invariant is touched. -/
theorem headInv_noPending {s : State} (hs : HeadInv s) :
    HeadInv { s with head := { s.head with pendingFold := none } } := by
  obtain ⟨blade, clamp, inCycle, -, safe⟩ := hs
  exact ⟨blade, clamp, inCycle, by simp, safe⟩

theorem sound_missPending (s : State) : Sound s (missPending s) := by
  unfold missPending
  split
  · exact Sound.refl s
  · exact (sound_head fun _ => headInv_noPending).trans (sound_missFold _ _)

theorem sound_settleClamp (s : State) : Sound s (settleClamp s) := by
  refine sound_ite (fun hd => sound_head fun _ hs => ?_) (fun _ => Sound.refl s)
  simp only [clampDue, Bool.and_eq_true, Bool.not_eq_true'] at hd
  obtain ⟨⟨hidle, hsafe⟩, -⟩ := hd
  obtain ⟨blade, -, inCycle, pending, -⟩ := hs
  have hcycle : s.head.cycle = .idle := by
    revert hidle
    cases s.head.cycle <;> simp [BladeCycle.isIdle]
  exact ⟨blade, fun _ => hcycle, inCycle, pending, by simp [hsafe]⟩

theorem sound_presentLatch (s : State) : Sound s (presentLatch s) := by
  refine sound_ite (fun hd => sound_head fun _ hs => ?_) (fun _ => Sound.refl s)
  simp only [Bool.and_eq_true, Bool.not_eq_true'] at hd
  obtain ⟨blade, clamp, inCycle, pending, -⟩ := hs
  exact ⟨blade, clamp, inCycle, pending, by simp [hd.2]⟩

theorem sound_refreshCeiling (s : State) : Sound s (refreshCeiling s) :=
  sound_head fun _ hs => headInv_same hs rfl rfl rfl rfl rfl rfl rfl

theorem sound_latch (w h : StrokeCode) (s : State) :
    Sound s { s with head := { s.head with latchW := w, latchH := h } } :=
  sound_head fun _ hs => headInv_same hs rfl rfl rfl rfl rfl rfl rfl

theorem sound_refreshHead (s : State) : Sound s (refreshHead s) :=
  ((sound_latch _ _ s).trans (sound_presentLatch _)).trans (sound_refreshCeiling _)

theorem sound_region (r : Region) (s : State) : Sound s { s with head := { s.head with region := r } } :=
  sound_head fun _ hs => headInv_same hs rfl rfl rfl rfl rfl rfl rfl

theorem sound_judgeSpeed (s : State) : Sound s (judgeSpeed s) := by
  have same : ∀ n b, Sound s { s with head := { s.head with overCount := n, armed := b } } := fun n b =>
    sound_head fun _ hs => headInv_same hs rfl rfl rfl rfl rfl rfl rfl
  unfold judgeSpeed
  refine sound_ite (fun _ => sound_ite (fun _ => ?_) (fun _ => same _ _)) (fun _ => same _ _)
  exact (same _ _).trans (sound_raise _ _)

/-! ## Causes (R94, R104) -/

@[simp] theorem dueAgain_inProgress (sp : Splice) : (dueAgain sp).inProgress = sp.inProgress := by
  cases sp <;> rfl

/-- The halt's end of the cycle and the pending fold keeps the head's invariant (R84). -/
theorem headInv_headHalted {s : State} (hs : HeadInv s) : HeadInv { s with head := headHalted s } := by
  obtain ⟨blade, clamp, inCycle, pending, safe⟩ := hs
  cases hc : s.head.cycle <;>
    simp_all [HeadInv, headHalted, BladeCycle.isStrike, BladeCycle.isIdle]

theorem causes_add_safe {c : Cause} (hc : c ≠ .safe) (x : CauseSet) : (x.add c).safe = x.safe :=
  causeSet_has_add_other x c .safe (Ne.symm hc)

/-- The records of a halt change no number of segments and no counter (R81, R84, R85). -/
theorem counts_foldsLost (s : State) :
    (foldsLost s).segments.length = s.map.segments.length ∧ (foldsLost s).started = s.map.started ∧
      (foldsLost s).reported = s.map.reported ∧ (foldsLost s).dropped = s.map.dropped ∧
      (foldsLost s).cleared = s.map.cleared := by
  unfold foldsLost
  (repeat' split) <;> simp [recordedOn]

/-- The addition of a cause other than SAFE (R94, R95). -/
theorem sound_addCause {c : Cause} (hc : c ≠ .safe) (s : State) : Sound s (addCause c s) := by
  have halt := addCause_haltInv c s
  rw [addCause_eq c s hc] at halt ⊢
  unfold causeAdded at halt ⊢
  have hsafe := causes_add_safe hc s.run.causes
  obtain ⟨hlen, hstarted, hreported, hdropped, hcleared⟩ := counts_foldsLost s
  split
  · exact Sound.refl s
  · rename_i hnew
    rw [if_neg hnew] at halt
    have hnotice : NoticeInv s → NoticeInv (raise .halted s) := (sound_raise .halted s).notice
    split
    · rename_i hs
      rw [if_pos hs] at halt
      exact { Sound.refl s with
        halt := halt
        head := fun _ h => by simpa only [HeadInv, hsafe] using h
        splice := fun _ h => by simpa only [SpliceInv, hsafe] using h
        valve := fun h => by simpa only [ValveInv, hsafe] using h
        notice := hnotice }
    · rename_i hs
      rw [if_neg hs] at halt
      exact { Sound.refl s with
        halt := halt
        head := fun _ h => by simpa only [HeadInv, haltEntered, hsafe] using headInv_headHalted h
        splice := fun _ h => by simpa only [SpliceInv, haltEntered, hsafe, dueAgain_inProgress] using h
        valve := fun h => by simpa only [ValveInv, haltEntered, hsafe] using h
        room := roomInv_congr (by simp [haltEntered]) (by simp [haltEntered]) (by simp [haltEntered])
          (by simp [haltEntered]) hlen.le (by simp [haltEntered])
        counter := counterInv_congr hlen hstarted hreported hdropped hcleared
        notice := hnotice }

end Sys2Proof.Machine

/-!
The addition of SAFE (R104), part by part: Run Control, the head, the heat and the unwind, with what each leaves.
-/

namespace Sys2Proof.Machine

/-! ## What each block makes of SAFE -/

/-- R94, R95: Run Control after SAFE joins the set. -/
def safeRun (s : State) : RunControl :=
  if s.run.state = .halted then { s.run with causes := s.run.causes.add .safe }
  else ⟨.halted, s.run.causes.add .safe, some (.safe, s.lineTime), s.lineTime⟩

/-- R85: the head after the addition of SAFE. -/
def headSafe (s : State) : Head :=
  { s.head with
    cycle := .idle, inCycle := none, pendingFold := none, clamp := false, blade := false, strokeW := 0, strokeH := 0
    bladeGap := if s.head.blade then ⟨s.lineTime, s.head.setup.gap⟩ else s.head.bladeGap }

/-- R168: a roll record of the stand when SAFE fails the splice: the new side's and the running side's go into CHECK. -/
def rollFailed (u : UnwindUnit) (side : Side) : Option RollRecord :=
  if u.splice.joining = some side ∨ runningSide u = some side then setPhase .check (u.rolls.get side) else u.rolls.get side

/-- R168: the Unwind Unit after SAFE has failed a splice in progress. -/
def spliceFailed (u : UnwindUnit) : UnwindUnit :=
  { u with
    rolls := ⟨rollFailed u .a, rollFailed u .b⟩, interval := none, splice := .idle, paste := none, knife := none }

/-- The addition of SAFE to the set, before the head, the heat and the unwind take it. -/
theorem addCause_safe_eq {s : State} (h : s.run.causes.safe = false) :
    addCause .safe s =
      { s with
        run := safeRun s
        feed := { s.feed with excursion := if s.run.state = .halted then s.feed.excursion else 0 }
        unwind := { s.unwind with
          splice := if s.run.state = .halted then s.unwind.splice else dueAgain s.unwind.splice }
        notices := (raise .halted s).notices } := by
  have hnew : ¬s.run.causes.has .safe = true := by simp [CauseSet.has, h]
  rw [addCause, if_neg hnew]
  by_cases hs : s.run.state = .halted
  · simp only [safeRun, if_pos hs]
    rfl
  · simp only [safeRun, if_neg hs]
    rw [enterHalted, if_pos rfl, backToDue_eq]
    rfl

/-- The head's account of SAFE, with the records of the folds it loses (R81, R85). -/
theorem safeHead_eq (s : State) : safeHead s = { s with head := headSafe s, map := foldsLost s } := by
  unfold safeHead foldsLost
  cases s.head.cycle <;> cases hi : s.head.inCycle <;> cases hp : s.head.pendingFold <;>
    simp [abortFold, hi, hp, missPending, missFold, flagSegment, onSegment, headSafe, recordedOn, foldAborted, foldMissed,
      PanelFlags.add]

/-- The heat's account of SAFE: every zone takes a forced close (R142). -/
theorem safeHeat_zone (s : State) (z : ZoneId) :
    (safeHeat s).heat.zones.get z = closedAt s.lineTime (s.heat.zones.get z) := by
  cases z <;> exact forceClose_eq _ _

theorem safeUnwind_of_not_inProgress {s : State} (h : s.unwind.splice.inProgress = false) : safeUnwind s = s :=
  if_neg (by simp [h])

/-- A splice in progress that SAFE fails: the unwind's account, before SPLICE_FAIL is added (R168). -/
theorem safeUnwind_of_inProgress {s : State} (h : s.unwind.splice.inProgress = true) :
    safeUnwind s =
      raise .spliceFailed (addCause .spliceFail { s with unwind := spliceFailed s.unwind }) := by
  rw [safeUnwind, if_pos h]
  unfold spliceFailed rollFailed
  cases hs : s.unwind.splice <;> simp_all [Splice.joining, Splice.inProgress, eq_comm, PerSide.get]

/-- In HALTED an addition of a cause other than SAFE touches the set and the notices only, also where the set holds it. -/
theorem addCause_of_halted' {c : Cause} {s : State} (hs : s.run.state = .halted) :
    addCause c s =
      { s with run := { s.run with causes := s.run.causes.add c }, notices := (addCause c s).notices } := by
  by_cases hc : s.run.causes.has c = true
  · rw [addCause_of_has c s hc, causeSet_add_of_has hc]
  · rw [addCause_of_halted (Bool.eq_false_of_not_eq_true hc) hs]

/-- The line is HALTED once SAFE has joined the set. -/
theorem safeRun_halted (s : State) : (safeRun s).state = .halted := by
  unfold safeRun
  split
  case isTrue h => exact h
  case isFalse => rfl

theorem safeRun_causes (s : State) : (safeRun s).causes = s.run.causes.add .safe := by
  unfold safeRun
  split <;> rfl

/-! ## The addition of SAFE -/

/-- The state after SAFE has been handed to the head and the heat, before the unwind takes it (R104). -/
def safeTaken (s : State) : State := safeHeat (safeHead (addCause .safe s))

theorem addSafe_of_new {s : State} (h : s.run.causes.safe = false) : addSafe s = safeUnwind (safeTaken s) :=
  if_neg (by simp [h])

/-- R94, R95, R85, R142: what the run control, the head and the heat make of SAFE. -/
theorem safeTaken_eq {s : State} (h : s.run.causes.safe = false) :
    safeTaken s =
      { s with
        run := safeRun s
        feed := { s.feed with excursion := if s.run.state = .halted then s.feed.excursion else 0 }
        head := headSafe s
        map := foldsLost s
        heat := { s.heat with zones := (safeHeat s).heat.zones }
        unwind := { s.unwind with
          splice := if s.run.state = .halted then s.unwind.splice else dueAgain s.unwind.splice }
        notices := (raise .halted s).notices } := by
  rw [safeTaken, safeHead_eq, addCause_safe_eq h]
  rfl

theorem safeTaken_inProgress {s : State} (h : s.run.causes.safe = false) :
    (safeTaken s).unwind.splice.inProgress = s.unwind.splice.inProgress := by
  rw [safeTaken_eq h]
  dsimp only
  split
  · rfl
  · rw [dueAgain_inProgress]

/-! ## The invariants under it -/

theorem headInv_headSafe (r : RunControl) (s : State) : HeadInv { s with head := headSafe s, run := r } :=
  ⟨rfl, fun _ => rfl, rfl, by simp [headSafe], fun _ => ⟨rfl, rfl, rfl, rfl⟩⟩

/-- A zone forced closed supplies nothing (R141). -/
theorem closedAt_phase_ne_supply (now : LineTime) (w : Zone) : (closedAt now w).phase ≠ .supply := by
  unfold closedAt
  split
  case isTrue => simp
  case isFalse h => exact h

/-- Losing the splice leaves no roll RUNNING that was not (R152, R168). -/
theorem rollFailed_running {u : UnwindUnit} {side : Side} (h : rollIs .running (rollFailed u side) = true) :
    rollIs .running (u.rolls.get side) = true := by
  unfold rollFailed at h
  split at h
  · cases hr : u.rolls.get side <;> simp [hr, setPhase, rollIs] at h
  · exact h

/-- With SAFE taken by the run control, the head and the heat, an unwind with no splice in progress is sound. -/
theorem sound_safeTaken {s : State} (h : s.run.causes.safe = false) {u : UnwindUnit} (hu : u.splice.inProgress = false)
    (hout : SpliceInv s → u.paste = none ∧ u.knife = none)
    (hroll : RollInv s → RollInv { s with unwind := u }) : Sound s { safeTaken s with unwind := u } := by
  obtain ⟨hlen, hstarted, hreported, hdropped, hcleared⟩ := counts_foldsLost s
  rw [safeTaken_eq h]
  exact { Sound.refl s with
    halt := fun _ => by
      unfold HaltInv
      rw [safeRun_halted, safeRun_causes]
      simp [causeSet_add_ne_none]
    head := fun _ _ => headInv_headSafe _ _
    splice := fun _ hs => ⟨fun _ => hout hs, fun _ => hu⟩
    roll := hroll
    valve := fun _ z hz => by
      rw [show ({ s.heat with zones := (safeHeat s).heat.zones } : HeatUnit).zones.get z =
        closedAt s.lineTime (s.heat.zones.get z) from safeHeat_zone s z] at hz
      exact absurd hz (closedAt_phase_ne_supply _ _)
    room := roomInv_congr (by simp) (by simp) (by simp) (by simp) hlen.le (by simp)
    counter := counterInv_congr hlen hstarted hreported hdropped hcleared
    notice := (sound_raise .halted s).notice }

theorem sound_addSafe (s : State) : Sound s (addSafe s) := by
  by_cases hsafe : s.run.causes.safe = true
  · rw [addSafe, if_pos hsafe]
    exact Sound.refl s
  replace hsafe := Bool.eq_false_of_not_eq_true hsafe
  have hstand : (safeTaken s).unwind.rolls = s.unwind.rolls ∧ (safeTaken s).unwind.paste = s.unwind.paste ∧
      (safeTaken s).unwind.knife = s.unwind.knife := by
    rw [safeTaken_eq hsafe]
    exact ⟨rfl, rfl, rfl⟩
  obtain ⟨hrolls, hpaste, hknife⟩ := hstand
  rw [addSafe_of_new hsafe]
  cases hp : s.unwind.splice.inProgress with
  | false =>
    have hnone := (safeTaken_inProgress hsafe).trans hp
    rw [safeUnwind_of_not_inProgress hnone]
    refine sound_safeTaken (u := (safeTaken s).unwind) hsafe hnone (fun hs => ?_) (fun hs => ?_)
    · rw [hpaste, hknife]
      exact hs.1 hp
    · simpa only [RollInv, hrolls] using hs
  | true =>
    rw [safeUnwind_of_inProgress ((safeTaken_inProgress hsafe).trans hp)]
    refine ((sound_safeTaken hsafe rfl (fun _ => ⟨rfl, rfl⟩) fun hs => ?_).trans
      (sound_addCause (by decide) _)).trans (sound_raise _ _)
    rintro ⟨ha, hb⟩
    have hra := rollFailed_running ha
    have hrb := rollFailed_running hb
    rw [hrolls] at hra hrb
    exact hs ⟨hra, hrb⟩

theorem sound_assertSafe (s : State) : Sound s (assertSafe s) := (sound_raise _ _).trans (sound_addSafe _)

end Sys2Proof.Machine

/-!
The operations of the head, the unwind, the Mark Unit, the planner and the Web Map are sound, each from those it is made of.
-/

namespace Sys2Proof.Machine

/-! ## Leaving RUNNING and DRAINING (R83, R98) -/

/-- The line leaves RUNNING or DRAINING for STOPPED: no cause is in the set there. -/
theorem sound_enterStopped {s : State} (h : producing s = true) : Sound s (enterStopped s) := by
  refine Sound.trans ?_ (sound_missPending _)
  exact { Sound.refl s with
    halt := fun hi => by
      have hne : s.run.state ≠ .halted := by
        rcases (producing_iff s).mp h with hs | hs <;> simp [hs]
      have hnone : s.run.causes = CauseSet.none := by
        by_contra hc
        exact hne (hi.mpr hc)
      simp [HaltInv, hnone] }

theorem sound_reportDrain (s : State) : Sound s (reportDrain s) := by
  refine sound_ite (fun h => ?_) (fun _ => Sound.refl s)
  exact (sound_enterStopped ((producing_iff s).mpr (.inr h.1))).trans (sound_raise _ _)

/-! ## References and contexts (R25, R42) -/

theorem sound_dropRef (i : Fin 16) (s : State) : Sound s (dropRef i s) :=
  sound_ite (fun _ => Sound.trans (Alike.sound (by simp [Alike])) (sound_raise _ _)) (fun _ => Alike.sound (by simp [Alike]))

theorem sound_freeContext (n : Serial) (s : State) : Sound s (freeContext n s) := by
  unfold freeContext
  split
  · exact Sound.refl s
  · refine Sound.trans ?_ (sound_dropRef _ _)
    exact { Sound.refl s with room := roomInv_congr (by simp) (List.length_eraseP_le) (by simp) (by simp) (by simp) (by simp) }

theorem sound_setPlanning (p : Option PlanningState) (s : State) : Sound s (setPlanning p s) :=
  Alike.sound (by simp [Alike, setPlanning])

/-! ## The head at the plan (R73 to R77) -/

/-- A segment that finds room joins the map and is counted started (R114). -/
theorem sound_segmentOpened (g : Segment) {s : State} (h : s.map.segments.length < 24) :
    Sound s
      { s with map := { s.map with segments := s.map.segments ++ [g], started := s.map.started + 1 } } :=
  { Sound.refl s with
    room := fun ⟨orders, contexts, plan, marks, _, reports⟩ =>
      ⟨orders, contexts, plan, marks, by simp; omega, reports⟩
    counter := fun hs => by
      simp only [CounterInv, List.length_append, List.length_singleton, BitVec.ofNat_add] at hs ⊢
      rw [hs]
      ac_rfl }

theorem sound_openPanel (n : Serial) {s : State} (h : s.map.segments.length < 24) : Sound s (openPanel n s) := by
  unfold openPanel
  split
  · exact Sound.refl s
  · rename_i c _
    have opened := (sound_segmentOpened (newSegment c s.carrier.position) h).trans (sound_region .folding _)
    refine sound_ite (fun _ => opened.trans (sound_freeContext n _)) (fun _ => opened.trans ?_)
    exact Alike.sound (by simp [Alike])

/-- A fold fires where SAFE is not in the set and BLADE is negated (R78). -/
theorem sound_fireFold (n : Serial) (p : Nat) (w h : StrokeCode) {s : State}
    (k : HaltInv s → HeadInv s → s.run.causes.safe = false ∧ s.head.blade = false) : Sound s (fireFold n p w h s) := by
  have fired := (sound_head (s := s)
    (h := { s.head with
      strokeW := w, strokeH := h, clamp := false, inCycle := some ⟨n, p⟩, lastFired := some p, pendingFold := none
      cycle := .opening ⟨s.lineTime, s.head.setup.gap⟩ })
    fun hi hs => ⟨(k hi hs).2, by simp, rfl, by simp, by simp [(k hi hs).1]⟩).trans
    (sound_onSegment n (fun g => { g with fired := countTo 65535 g.fired }) _)
  unfold fireFold
  split
  · exact fired
  · exact sound_ite (fun _ => (fired.trans (sound_onSegment _ _ _)).trans (sound_raise _ _)) (fun _ => fired)

/-- While the line produces, no cause is in the set (R93). -/
theorem causes_of_producing {s : State} (h : producing s = true) (hi : HaltInv s) : s.run.causes = CauseSet.none := by
  by_contra hc
  have hs := hi.mpr hc
  rcases (producing_iff s).mp h with h | h <;> simp [h] at hs

theorem isIdle_iff (c : BladeCycle) : c.isIdle = true ↔ c = .idle := by
  cases c <;> simp [BladeCycle.isIdle]

theorem sound_reachFold (n : Serial) (p : Nat) (w h : StrokeCode) (s : State) : Sound s (reachFold n p w h s) := by
  have region := sound_region .folding s
  unfold reachFold
  refine sound_ite (fun hp => sound_ite (fun hc => ?_) (fun hc => ?_)) (fun _ => region.trans (sound_missFold _ _))
  · refine region.trans (sound_fireFold n p w h fun hi hs => ⟨?_, ?_⟩)
    · exact congrArg CauseSet.safe (causes_of_producing (s := s) hp hi)
    · rw [hs.1]
      simp [(isIdle_iff _).mp hc, BladeCycle.isStrike]
  · split
    · refine region.trans (sound_head fun hi ⟨blade, clamp, inCycle, _, safe⟩ => ?_)
      exact ⟨blade, clamp, inCycle, fun _ hidle => hc ((isIdle_iff _).mpr hidle), safe⟩
    · exact ((region.trans (sound_missPending _)).trans (sound_addCause (by decide) _)).trans (sound_missFold _ _)

theorem sound_closePanel (n : Serial) (s : State) : Sound s (closePanel n s) :=
  ((sound_region _ s).trans (sound_onSegment _ _ _)).trans (sound_reportDrain _)

/-- The front entry leaves the plan. -/
theorem sound_planTail {s : State} {e : PlanEntry} {rest : List PlanEntry} (h : s.plan = e :: rest) :
    Sound s { s with plan := rest } :=
  { Sound.refl s with
    room := roomInv_congr (by simp) (by simp) (by simp [h]) (by simp) (by simp) (by simp)
    plan := fun ⟨rising, last⟩ => by
      rw [h] at rising last
      exact ⟨(List.pairwise_cons.mp rising).2, fun x hx => last x (List.mem_cons_of_mem e hx)⟩ }

/-- The consumption of an entry, a PANEL_START finding room in the map (R73 to R77). -/
theorem sound_consumed {e : PlanEntry} {s : State} (h : e.kind = .panelStart → s.map.segments.length < 24) :
    Sound s (consumed e s) := by
  refine Sound.trans ?_ (sound_refreshHead _)
  cases hk : e.kind with
  | panelStart => exact sound_openPanel _ (h hk)
  | fold w h => exact sound_reachFold _ _ _ _ s
  | flat len ok => exact sound_region _ s
  | panelEnd => exact sound_closePanel _ s

/-- Whatever the head consumes in one event (R73, R74). -/
theorem Consumes.sound {s t : State} (h : Consumes s t) : Sound s t := by
  induction h with
  | short s _ => exact Sound.refl s
  | held s e rest hp hr hk hfull =>
    rw [← addCause_eq .mapFull s (by decide)]
    exact sound_addCause (by decide) s
  | taken s t e rest hp hr hroom _ ih => exact ((sound_planTail hp).trans (sound_consumed hroom)).trans ih

theorem sound_headEvent (s : State) : Sound s (headEvent s) := (consumes_headEvent s).sound

/-- The end of the closing gap, where the cycle is in it (R79). -/
theorem sound_endClosingGap {s : State} (h : ∃ t, s.head.cycle = .closing t) : Sound s (endClosingGap s) := by
  obtain ⟨g, hg⟩ := h
  have quiet : HeadInv s → s.run.causes.safe = false ∧ s.head.blade = false := fun ⟨blade, _, _, _, safe⟩ => by
    refine ⟨Bool.eq_false_iff.mpr fun hsafe => ?_, by simp [blade, hg, BladeCycle.isStrike]⟩
    simp [hg] at safe
    simp [hsafe] at safe
  unfold endClosingGap
  split
  · exact ((sound_fireFold _ _ _ _ fun _ => quiet).trans (sound_refreshHead _)).trans (sound_reportDrain _)
  · rename_i hnone
    refine (Sound.trans (sound_head fun _ hs => ?_) (sound_settleClamp _)).trans (sound_presentLatch _)
    exact ⟨(quiet hs).2, fun _ => rfl, rfl, by simp [hnone], by simp [quiet hs]⟩

end Sys2Proof.Machine

/-!
The operations of the unwind, the Mark Unit, the planner and the Web Map are sound, each from those it is made of.
-/

namespace Sys2Proof.Machine

/-! ## The splice and the rolls (9.2 to 9.6) -/

/-- An update of the unwind alone is sound where it keeps the splice's and the rolls' invariants. -/
theorem sound_unwind {s : State} {u : UnwindUnit} (hs : HaltInv s → SpliceInv s → SpliceInv { s with unwind := u })
    (hr : RollInv s → RollInv { s with unwind := u }) : Sound s { s with unwind := u } :=
  { Sound.refl s with
    splice := hs
    roll := hr }

/-- The splice record moves between states that are alike in progress or alike not. -/
theorem sound_splice {s : State} {sp : Splice} (h : sp.inProgress = s.unwind.splice.inProgress) :
    Sound s { s with unwind := { s.unwind with splice := sp } } :=
  sound_unwind (fun _ hs => by simpa only [SpliceInv, h] using hs) id

theorem sound_interval (i : Option RevInterval) (s : State) : Sound s { s with unwind := { s.unwind with interval := i } } :=
  sound_unwind (fun _ => id) id

/-- Whatever a search does (R162). -/
theorem Searched.sound {s t : State} (h : Searched s t) : Sound s t := by
  obtain ⟨found, stands⟩ := h
  by_cases hf : ∃ d i x, SearchDue s d i ∧ SearchFinds s.unwind.settings s.feed.position s.plan x
  · obtain ⟨d, i, x, hdue, hfinds⟩ := hf
    rw [found d i x hdue hfinds]
    exact Sound.trans (sound_splice (sp := .planned d (otherSide i) x _) (by rw [hdue.1]; rfl))
      (sound_raise .splicePlanned _)
  · rw [stands]
    · exact Sound.refl s
    · by_contra hc
      push Not at hc
      obtain ⟨⟨d, i, hdue⟩, x, hfinds⟩ := hc
      exact hf ⟨d, i, x, hdue, hfinds⟩

theorem sound_trySearch (s : State) : Sound s (trySearch s) := (searched_trySearch s).sound

/-- A change becomes due where no splice is in progress (R159). -/
theorem sound_enterDue (r : SpliceReason) {s : State} (h : s.unwind.splice.inProgress = false) :
    Sound s (enterDue r s) := by
  have due : Sound s { s with unwind := { s.unwind with splice := .due r } } := sound_splice h.symm
  exact (due.trans (sound_ite (fun _ => Sound.refl _) (fun _ => sound_raise _ _))).trans (sound_trySearch _)

theorem sound_judgeChange (s : State) : Sound s (judgeChange s) := by
  unfold judgeChange
  split
  · rename_i hs _
    exact sound_ite (fun _ => sound_enterDue _ (by rw [hs]; rfl)) (fun _ => Sound.refl s)
  · exact Sound.refl s

theorem sound_judgeEnd (s : State) : Sound s (judgeEnd s) := by
  unfold judgeEnd
  split
  · refine sound_ite (fun _ => ?_) (fun _ => Sound.refl s)
    exact (sound_splice (by rw [backToDue_eq, dueAgain_inProgress])).trans (sound_addCause (by decide) _)
  · exact Sound.refl s

theorem sound_judgeReserves (s : State) : Sound s (judgeReserves s) := (sound_judgeChange s).trans (sound_judgeEnd _)

/-- A FIRED splice that cuts (R165): the knife is asserted in a splice that was and stays in progress. -/
theorem sound_knifeCheck (s : State) : Sound s (knifeCheck s) := by
  unfold knifeCheck
  split
  · rename_i hs
    refine sound_ite (fun _ => sound_unwind (fun _ ⟨_, safe⟩ => ⟨by simp [Splice.inProgress], fun h => ?_⟩) id)
      (fun _ => Sound.refl s)
    have := safe h
    rw [hs] at this
    cases this
  · exact Sound.refl s

/-- A splice fires while the line produces, with no cause in the set (R164). -/
theorem sound_fireSplice (r : SpliceReason) (i : Side) (x f : Nat) {s : State} (h : producing s = true) :
    Sound s (fireSplice r i x f s) := by
  unfold fireSplice
  dsimp only
  refine Sound.trans ?_ (sound_knifeCheck _)
  refine sound_unwind (fun hi _ => ⟨fun hp => ?_, fun hsafe => ?_⟩) id
  · cases hp
  · have hnone : s.run.causes.safe = false := congrArg CauseSet.safe (causes_of_producing h hi)
    exact absurd hsafe (by simp [hnone])

theorem sound_fireCheck (s : State) : Sound s (fireCheck s) := by
  unfold fireCheck
  split
  · rename_i hs
    refine sound_ite (fun _ => sound_ite (fun h => sound_fireSplice _ _ _ _ h) (fun _ => sound_splice ?_))
      (fun _ => Sound.refl s)
    rw [hs]
    rfl
  · exact Sound.refl s

/-- An update of the Mark Unit that lets the list grow no longer and keeps k, or gives it a value of its range. -/
theorem sound_marks {s : State} {m : MarkUnit} (hl : m.list.length ≤ s.marks.list.length)
    (hk : m.k = s.marks.k ∨ (62259 ≤ m.k ∧ m.k ≤ 68813)) : Sound s { s with marks := m } :=
  { Sound.refl s with
    room := roomInv_congr (by simp) (by simp) (by simp) hl (by simp) (by simp)
    factor := fun hs => hk.elim (fun h => by simpa only [FactorInv, h] using hs) id }

theorem sound_seamCheck (s : State) : Sound s (seamCheck s) := by
  unfold seamCheck
  split
  · exact Sound.refl s
  refine sound_ite (fun _ => ?_) (fun _ => Sound.refl s)
  have judged : ∀ u : State, Sound u
      { u with unwind := { u.unwind with seam := none }, marks := { u.marks with k := 65536, last := none } } := fun u =>
    Sound.trans (sound_unwind (u := { u.unwind with seam := none }) (fun _ => id) id)
      (sound_marks (m := { u.marks with k := 65536, last := none }) (Nat.le_refl _) (.inr ⟨by norm_num, by norm_num⟩))
  refine ((Sound.trans ?_ (judged _)).trans (sound_raise _ _)).trans (sound_trySearch _)
  refine sound_ite (fun _ => Sound.refl s) (fun _ => ?_)
  split
  · exact Sound.refl s
  · exact sound_flagSegment _ _ s

theorem sound_unwindEvent (s : State) : Sound s (unwindEvent s) :=
  ((sound_fireCheck s).trans (sound_knifeCheck _)).trans (sound_seamCheck _)

theorem sound_unwindShift (s : State) : Sound s (unwindShift s) := (sound_fireCheck s).trans (sound_trySearch _)

theorem sound_intervalTick (d : Direction) (s : State) : Sound s (intervalTick d s) := by
  unfold intervalTick
  split
  · exact Sound.refl s
  · exact sound_interval _ s

/-- A change of a record that keeps its phase leaves it in the state it was in. -/
theorem rollIs_map {f : RollRecord → RollRecord} (h : ∀ r, (f r).phase = r.phase) (p : RollPhase) (r : Option RollRecord) :
    rollIs p (r.map f) = rollIs p r := by
  cases r <;> simp [rollIs, h]

theorem sound_onRunning {f : RollRecord → RollRecord} (h : ∀ r, (f r).phase = r.phase) (s : State) :
    Sound s (onRunning f s) := by
  unfold onRunning
  split
  · exact Sound.refl s
  · rename_i i _
    refine sound_unwind (fun _ => id) (fun hs => ?_)
    cases i <;> simpa only [RollInv, PerSide.set, PerSide.get, rollIs_map h] using hs

theorem sound_overflowInterval (s : State) : Sound s (overflowInterval s) := by
  have closed := (sound_interval none s).trans (sound_onRunning (f := fun r => { r with stale := true }) (fun _ => rfl) _)
  exact sound_ite (fun _ => closed) (fun _ => closed.trans (sound_raise _ _))

/-- Judging an interval changes no roll's state (R157). -/
theorem judged_phase (i : RevInterval) (q : Nat) (r : RollRecord) : (r.judged i q).phase = r.phase := by
  unfold RollRecord.judged
  dsimp only
  (repeat' split) <;> rfl

theorem sound_runningPulse (s : State) : Sound s (runningPulse s) := by
  have opened := fun t => sound_interval (some ⟨0, false⟩) t
  unfold runningPulse
  split
  · exact opened s
  refine sound_ite (fun _ => (sound_overflowInterval s).trans (opened _)) (fun _ => ?_)
  split
  · exact opened s
  rename_i i _ _ _ _ _
  have judged := (sound_onRunning (judged_phase i s.tracking.feedTick) s).trans (opened _)
  exact sound_ite (fun _ => judged.trans (sound_judgeReserves _)) (fun _ => judged)

/-- A record moved to SPENT where it was RUNNING is RUNNING no more. -/
theorem rollIs_spent (r : Option RollRecord) :
    rollIs .running (if rollIs .running r then setPhase .spent r else r) = false := by
  split
  case isTrue => cases r <;> rfl
  case isFalse h => exact Bool.eq_false_of_not_eq_true h

/-- With the record across not RUNNING, at most one is. -/
theorem rollInv_set_other {s : State} {u : UnwindUnit} (side : Side) (r r' : Option RollRecord) (p : PerSide (Option RollRecord))
    (hu : u.rolls = (p.set side r).set (otherSide side) r') (h : rollIs .running r' = false) :
    RollInv { s with unwind := u } := by
  rintro ⟨ha, hb⟩
  simp only [hu] at ha hb
  cases side <;> simp [PerSide.set, otherSide, h] at ha hb

/-- The completion of a CUTTING splice: both outputs are negated and the old side leaves RUNNING (R166). -/
theorem sound_completeCheck (s : State) : Sound s (completeCheck s) := by
  unfold completeCheck
  split
  · refine sound_ite (fun h => ?_) (fun _ => Sound.refl s)
    simp only [Bool.and_eq_true, Option.isNone_iff_eq_none] at h
    refine (Sound.trans ?_ (sound_raise _ _)).trans (sound_judgeReserves _)
    refine sound_unwind (fun _ _ => ⟨fun _ => h, fun _ => rfl⟩) (fun _ => ?_)
    exact rollInv_set_other _ _ _ _ rfl (rollIs_spent _)
  · exact Sound.refl s

theorem sound_pasteEnd (s : State) : Sound s { s with unwind := { s.unwind with paste := none } } :=
  sound_unwind (fun _ ⟨out, safe⟩ => ⟨fun h => ⟨rfl, (out h).2⟩, safe⟩) id

theorem sound_knifeEnd (s : State) : Sound s { s with unwind := { s.unwind with knife := none } } :=
  sound_unwind (fun _ ⟨out, safe⟩ => ⟨fun h => ⟨(out h).1, rfl⟩, safe⟩) id

/-! ## The Mark Unit (4.3 to 4.5) -/

theorem sound_frontOpened (s : State) : Sound s (frontOpened s) := by
  unfold frontOpened
  split
  · exact Sound.refl s
  · exact sound_ite (fun _ => sound_marks (Nat.le_refl _) (.inl rfl)) (fun _ => Sound.refl s)

theorem sound_takeMiss (e : Expectation) {rest : List Expectation} (o : OutcomeRecord) {s : State}
    (h : rest.length ≤ s.marks.list.length) : Sound s (takeMiss e rest o s) := by
  have taken := fun n a => sound_marks (s := s)
    (m := { s.marks with list := rest, misses := n, last := a, outcome := some o }) h (.inl rfl)
  exact sound_ite (fun _ => ((taken _ _).trans (sound_flagPanel _ _ _)).trans (sound_raise _ _)) (fun _ => taken _ _)

theorem sound_judgeFront (n : Nat) (s : State) : Sound s (judgeFront n s) := by
  induction n generalizing s with
  | zero => exact Sound.refl s
  | succ n ih =>
    unfold judgeFront
    split
    · exact Sound.refl s
    · rename_i hl
      refine sound_ite (fun _ => ?_) (fun _ => Sound.refl s)
      exact ((sound_takeMiss _ _ (by simp [hl])).trans (sound_frontOpened _)).trans (ih _)

theorem sound_judgeMisses (s : State) : Sound s (judgeMisses s) := sound_judgeFront _ s

theorem sound_markTick (d : Direction) (s : State) : Sound s (markTick d s) := by
  unfold markTick
  split
  · exact Sound.refl s
  · have measured := fun q => sound_marks (s := s) (m := { s.marks with measurement := q }) (Nat.le_refl _) (.inl rfl)
    exact sound_ite (fun _ => (measured _).trans (sound_judgeMisses _)) (fun _ => measured _)

/-- A position moved within the range of positions is the position plus the shift (R64, R65). -/
theorem shiftPos_of_fits {e : Int} {n : Nat} (h : shiftFits e n = true) : (shiftPos e n : Int) = n + e := by
  simp only [shiftFits, Bool.and_eq_true, decide_eq_true_eq] at h
  unfold shiftPos
  omega

@[simp] theorem shiftPlan_frame (e : Int) (rest : List Expectation) (s : State) :
    (shiftPlan e rest s).run = s.run ∧ (shiftPlan e rest s).head = s.head ∧ (shiftPlan e rest s).heat = s.heat ∧
      (shiftPlan e rest s).orders = s.orders ∧ (shiftPlan e rest s).map = s.map ∧
      (shiftPlan e rest s).exitUnit = s.exitUnit ∧ (shiftPlan e rest s).links = s.links ∧
      (shiftPlan e rest s).starvation = s.starvation ∧ (shiftPlan e rest s).marks.k = s.marks.k ∧
      (shiftPlan e rest s).notices = s.notices ∧ (shiftPlan e rest s).pending = s.pending := by
  simp [shiftPlan]

/-- A shift that fits keeps the plan in order: every position moves by the same distance (R65). -/
theorem sound_shiftPlan (e : Int) {rest : List Expectation} {s : State} (hl : rest.length ≤ s.marks.list.length)
    (h : (movedPositions rest s).all (shiftFits e) = true) : Sound s (shiftPlan e rest s) :=
  { Sound.refl s with
    splice := fun _ hs => by
      have hp : (s.unwind.splice.shift e).inProgress = s.unwind.splice.inProgress := by cases s.unwind.splice <;> rfl
      simpa only [SpliceInv, shiftPlan, hp] using hs
    roll := id
    room := roomInv_congr (by simp [shiftPlan]) (by simp [shiftPlan]) (by simp [shiftPlan]) (by simpa [shiftPlan] using hl)
      (by simp [shiftPlan]) (by simp [shiftPlan])
    plan := fun ⟨rising, last⟩ => by
      rw [List.all_eq_true] at h
      have hplan : ∀ p ∈ s.plan, (shiftPos e p.position : Int) = p.position + e := fun p hp =>
        shiftPos_of_fits (h _ (by simp only [movedPositions, List.mem_append, List.mem_map]; grind))
      have hlast : ∀ n, s.planner.lastAppended = some n → (shiftPos e n : Int) = n + e := fun n hn =>
        shiftPos_of_fits (h _ (by simp [movedPositions, hn]))
      rw [List.pairwise_map] at rising
      refine ⟨?_, fun p' hp' => ?_⟩
      · simp only [shiftPlan, List.map_map, List.pairwise_map]
        refine rising.imp_of_mem fun {p q} hp hq hpq => ?_
        have := hplan p hp
        have := hplan q hq
        simp only [Function.comp]
        omega
      · obtain ⟨p, hp, rfl⟩ := List.mem_map.mp hp'
        obtain ⟨n, hn, hle⟩ := last p hp
        refine ⟨shiftPos e n, by simp [shiftPlan, hn], ?_⟩
        have := hplan p hp
        have := hlast n hn
        dsimp only
        omega }

/-- The accept of a mark whose factor and shift fit (R64, R65, R68). -/
theorem sound_acceptMark (q : Measurement) (e : Expectation) {rest : List Expectation} {s : State}
    (hl : rest.length ≤ s.marks.list.length)
    (hk : factorFits (measuredFactor s.marks.last e q.headPos s.tracking.feedTick) = true)
    (h : (movedPositions rest s).all (shiftFits ((q.headPos : Int) - e.position)) = true) :
    Sound s (acceptMark q e rest s) := by
  unfold acceptMark
  dsimp only
  refine (Sound.trans ?_ (sound_frontOpened _)).trans (sound_judgeMisses _)
  refine (sound_shiftPlan _ hl h).trans (sound_marks ?_ ?_)
  · rfl
  cases hf : measuredFactor s.marks.last e q.headPos s.tracking.feedTick with
  | none => exact .inl rfl
  | some k =>
    rw [hf] at hk
    simp only [factorFits, Bool.and_eq_true, decide_eq_true_eq] at hk
    exact .inr (show 62259 ≤ k.toNat ∧ k.toNat ≤ 68813 by omega)

theorem sound_visit {f : State → State} (hf : ∀ t, Sound t (f t)) (p : Prop) {_ : Decidable p} :
    ∀ g ∈ (if p then [f] else []), ∀ t, Sound t (g t) := by
  split <;> simp [hf]

/-- Two visits, each made or not, in either order (log 4). -/
theorem sound_twoVisits {f g : State → State} (hf : ∀ t, Sound t (f t)) (hg : ∀ t, Sound t (g t)) (p q : Prop)
    {_ : Decidable p} {_ : Decidable q} (s : State) :
    Sound s (runVisits s ((if p then [f] else []) ++ (if q then [g] else []))) := by
  refine sound_runVisits (fun k hk => ?_) s
  rcases List.mem_append.mp hk with hk | hk
  · exact sound_visit hf p k hk
  · exact sound_visit hg q k hk

theorem sound_shiftEvent (s : State) : Sound s (shiftEvent s) :=
  (sound_refreshHead s).trans (sound_twoVisits sound_headEvent sound_unwindShift _ _ _)

theorem sound_judgeMark (q : Measurement) (s : State) : Sound s (judgeMark q s) := by
  have recorded := fun o => sound_marks (s := s)
    (m := { s.marks with outcome := some ⟨o, q.headPos, q.width⟩ }) (Nat.le_refl _) (.inl rfl)
  unfold judgeMark
  refine sound_ite (fun _ => recorded _) fun _ => sound_ite (fun _ => recorded _) fun _ =>
    sound_ite (fun _ => recorded _) fun _ => ?_
  split
  · exact recorded _
  rename_i e rest hlist
  have hl : rest.length ≤ s.marks.list.length := by simp [hlist]
  refine sound_ite (fun _ => recorded _) fun _ => sound_ite (fun _ => ?_) fun hk => sound_ite (fun _ => ?_) fun hf => ?_
  · exact (sound_takeMiss _ _ hl).trans (sound_frontOpened _)
  · exact (sound_takeMiss _ _ hl).trans (sound_frontOpened _)
  · exact (sound_acceptMark q e hl (by simpa using hk) (by simpa using hf)).trans (sound_shiftEvent _)

end Sys2Proof.Machine

/-!
The events of the planner, the trackers, the Web Map and the Heat Unit are sound.
-/

namespace Sys2Proof.Machine

/-! ## The planner (3.3 to 3.7) -/

/-- The planner begins a copy only where it is free to, plans none, and has the head entry's header (R40, R44). -/
theorem plannerBegin_iff (s : State) (o : PanelOrder) (h : Header) :
    plannerBegin s = some (o, h) ↔
      PlannerFree s ∧ (∀ c ∈ s.planner.contexts, c.planning = none) ∧ s.orders.head? = some o ∧
        s.slots[o.slot].header? = some h := by
  unfold plannerBegin
  rw [← plannerFree_iff, ← planningCopy_none, ← Option.isNone_iff_eq_none]
  by_cases hf : plannerCondition s = .planning ∧ (planningCopy s).isNone = true
  · rw [if_pos hf]
    cases s.orders with
    | nil => simp
    | cons x rest =>
      simp only [hf.1, true_and, List.head?_cons, Option.some.injEq, Option.map_eq_some_iff, Prod.mk.injEq]
      constructor
      · rintro ⟨_, hh, rfl, rfl⟩
        exact ⟨hf.2, rfl, hh⟩
      · rintro ⟨_, rfl, hh⟩
        exact ⟨h, hh, rfl, rfl⟩
  · rw [if_neg hf]
    simp only [reduceCtorEq, false_iff]
    exact fun k => hf ⟨k.1, k.2.1⟩

/-- The planner continues a copy only where it is free to, with the piece that R46 gives. -/
theorem plannerPiece_iff (s : State) (c : Context) (p : PlanningState) (i : Piece) :
    plannerPiece s = some (c, p, i) ↔ PlannerFree s ∧ CopyPlanned s c p ∧ i = nextPiece s c p := by
  unfold plannerPiece
  rw [← plannerFree_iff]
  by_cases hf : plannerCondition s = .planning
  · rw [if_pos hf]
    cases hc : planningCopy s with
    | none =>
      simp only [reduceCtorEq, hf, true_and, false_iff]
      rintro ⟨h, _⟩
      rw [(planningCopy_iff s c p).mpr h] at hc
      cases hc
    | some cp =>
      obtain ⟨c', p'⟩ := cp
      have hcp : CopyPlanned s c p ↔ c' = c ∧ p' = p := by
        rw [← planningCopy_iff, hc]
        simp
      rw [hcp]
      simp only [Option.some.injEq, Prod.mk.injEq, hf, true_and]
      constructor
      · rintro ⟨rfl, rfl, rfl⟩
        exact ⟨⟨rfl, rfl⟩, rfl⟩
      · rintro ⟨⟨rfl, rfl⟩, rfl⟩
        exact ⟨rfl, rfl, rfl⟩
  · simp [hf]

/-- An entry stands beyond the last appended position (R54). -/
theorem lt_place {last : Option Nat} {l : Nat} (h : last = some l) (pos : Nat) : l < place last pos := by
  subst h
  unfold place
  dsimp only
  split <;> omega

/-- An entry placed by R54 joins a plan that has room and stays in order. -/
theorem sound_planAppend {s : State} {e : PlanEntry} {pos : Nat} (he : e.position = place s.planner.lastAppended pos)
    (hl : s.plan.length < 128) :
    Sound s { s with plan := s.plan ++ [e], planner := { s.planner with lastAppended := some e.position } } :=
  { Sound.refl s with
    room := fun ⟨orders, contexts, _, marks, segments, reports⟩ =>
      ⟨orders, contexts, by simp; omega, marks, segments, reports⟩
    plan := fun ⟨rising, last⟩ => by
      have beyond : ∀ x ∈ s.plan, x.position < e.position := fun x hx => by
        obtain ⟨l, hl, hle⟩ := last x hx
        exact he ▸ Nat.lt_of_le_of_lt hle (lt_place hl pos)
      constructor
      · rw [List.map_append, List.pairwise_append]
        refine ⟨rising, by simp, fun a ha b hb => ?_⟩
        obtain ⟨x, hx, rfl⟩ := List.mem_map.mp ha
        simp only [List.map_cons, List.map_nil, List.mem_singleton] at hb
        exact hb ▸ beyond x hx
      · intro x hx
        refine ⟨e.position, rfl, ?_⟩
        rcases List.mem_append.mp hx with hx | hx
        · exact (beyond x hx).le
        · rw [List.mem_singleton.mp hx] }

/-- An append, with the visits of the head and the Unwind Unit that it brings (R55). -/
theorem sound_appendEntry {s : State} {e : PlanEntry} (pos : Nat) (he : e.position = place s.planner.lastAppended pos)
    (hl : s.plan.length < 128) : Sound s (appendEntry e s) :=
  ((sound_planAppend he hl).trans (sound_refreshHead _)).trans (sound_twoVisits sound_headEvent sound_trySearch _ _ _)

/-- Contexts, orders and cursor of a planner whose queues stay within their bounds. -/
theorem sound_planner {s : State} {os : List PanelOrder} {p : Planner} (ho : os.length ≤ s.orders.length)
    (hc : p.contexts.length ≤ s.planner.contexts.length ∨ p.contexts.length ≤ 8)
    (hl : p.lastAppended = s.planner.lastAppended) : Sound s { s with orders := os, planner := p } :=
  { Sound.refl s with
    room := fun ⟨orders, contexts, rest⟩ => ⟨ho.trans orders, hc.elim (fun h => h.trans contexts) id, rest⟩
    plan := planInv_congr rfl hl }

theorem sound_beginCopy {s : State} {o : PanelOrder} {h : Header} (hb : plannerBegin s = some (o, h)) :
    Sound s (beginCopy o h s) := by
  obtain ⟨⟨hplan, -, hmaterial, -, -⟩, hnone, horder, -⟩ := (plannerBegin_iff s o h).mp hb
  have hcontexts : s.planner.contexts.length < 8 := by
    rcases hmaterial with ⟨c, hc, hp⟩ | ⟨-, hlt⟩
    · exact absurd (hnone c hc) hp
    · exact hlt
  obtain ⟨rest, horders⟩ : ∃ rest, s.orders = o :: rest := List.head?_eq_some_iff.mp horder
  have added : Sound s (addRef o.slot s) := Alike.sound (by simp [Alike])
  unfold beginCopy
  dsimp only
  refine Sound.trans (Sound.trans (Sound.trans (added.trans (sound_planner ?shorter (.inr ?contexts) ?last))
    (sound_ite (fun _ => sound_dropRef _ _) fun _ => Sound.refl _))
    (sound_ite (fun _ => sound_raise _ _) fun _ => Sound.refl _)) (sound_appendEntry _ (congrArg (place · _) ?placed) ?room)
  case shorter =>
    rw [addRef_orders, horders]
    split <;> simp
  case contexts =>
    simp
    omega
  case last => rfl
  case placed => (repeat' split) <;> simp
  case room => (repeat' split) <;> simp [hplan]

/-- An expectation joins a list that has room. -/
theorem sound_expectation (e : Expectation) {s : State} (h : s.marks.list.length < 16) :
    Sound s { s with marks := { s.marks with list := s.marks.list ++ [e] } } :=
  { Sound.refl s with
    room := fun ⟨orders, contexts, plan, _, segments, reports⟩ =>
      ⟨orders, contexts, plan, by simp; omega, segments, reports⟩ }

theorem sound_appendExpectation {s : State} {c : Context} {p : PlanningState}
    (h : plannerPiece s = some (c, p, .expectation)) : Sound s (appendExpectation c p s) := by
  obtain ⟨⟨-, hlist, -⟩, hcopy, hpiece⟩ := (plannerPiece_iff s c p _).mp h
  have hmark : c.repeatLen ≠ 0 := by
    rcases nextPiece_cases s c p with ⟨hm, -⟩ | ⟨-, ⟨st, -, -, hp⟩ | ⟨st, -, -, hp⟩ | ⟨-, hp⟩⟩
    · exact hm.1
    all_goals rw [hp] at hpiece; cases hpiece
  have hroom : s.marks.list.length < 16 := by
    by_contra hc
    exact hlist ⟨c.repeatLen, .inl ⟨c, p, hcopy, rfl⟩, hmark, Nat.not_lt.mp hc⟩
  refine Sound.trans ?_ (sound_judgeMisses _)
  have appended := fun q e => (sound_expectation e hroom).trans (sound_setPlanning q _)
  exact sound_ite (fun _ => (appended _ _).trans (sound_frontOpened _)) (fun _ => appended _ _)

@[simp] theorem setPlanning_lastAppended (p : Option PlanningState) (s : State) :
    (setPlanning p s).planner.lastAppended = s.planner.lastAppended := rfl

@[simp] theorem flagPanel_lastAppended (n : Serial) (f : PanelFlag) (s : State) :
    (flagPanel n f s).planner.lastAppended = s.planner.lastAppended := by
  unfold flagPanel
  split <;> simp

@[simp] theorem freeContext_lastAppended (n : Serial) (s : State) :
    (freeContext n s).planner.lastAppended = s.planner.lastAppended := by
  unfold freeContext
  split <;> simp

theorem sound_cursor (p : Option Nat) (s : State) : Sound s { s with planner := { s.planner with cursor := p } } :=
  Alike.sound (by simp [Alike])

theorem sound_appendFold {s : State} (c : Context) (p : PlanningState) (st : PatternStep) (h : s.plan.length < 128) :
    Sound s (appendFold c p st s) := by
  unfold appendFold
  dsimp only
  refine (((sound_cursor _ s).trans (sound_setPlanning _ _)).trans
    (sound_ite (fun _ => sound_flagPanel _ _ _) fun _ => Sound.refl _)).trans (sound_appendEntry _ (congrArg (place · _) ?_) ?_) <;>
    split <;> simp [h]

theorem sound_appendFlat {s : State} (c : Context) (p : PlanningState) (st : PatternStep) (h : s.plan.length < 128) :
    Sound s (appendFlat c p st s) :=
  ((sound_cursor _ s).trans (sound_setPlanning _ _)).trans (sound_appendEntry _ rfl h)

theorem sound_appendPanelEnd {s : State} (c : Context) (h : s.plan.length < 128) : Sound s (appendPanelEnd c s) := by
  unfold appendPanelEnd
  dsimp only
  refine ((sound_setPlanning none s).trans (sound_ite (fun _ => sound_freeContext _ _) fun _ => Sound.refl _)).trans
    (sound_appendEntry _ (congrArg (place · _) ?_) ?_) <;> split <;> simp [h]

/-! ## Ticks of the feed and of the carrier -/

theorem feedCause_ne_safe {d : Direction} {b : Bool} {s : State} {c : Cause} (h : feedCause d b s = some c) : c ≠ .safe := by
  unfold feedCause at h
  cases d <;> dsimp only at h <;> split at h <;> cases h <;> decide

theorem sound_feedTick (d : Direction) (s : State) : Sound s (feedTick d s) := by
  have ticked := fun f => Sound.trans (s := s) (t := { s with feed := f }) (Alike.sound (by simp [Alike])) ((sound_markTick d _).trans (sound_intervalTick d _))
  unfold feedTick
  dsimp only
  refine Sound.trans (Sound.trans (ticked _) (sound_ite (fun _ => sound_judgeMisses _) fun _ => Sound.refl _))
    (sound_runVisits (fun f hf => ?_) _)
  rcases List.mem_append.mp hf with hf | hf
  · rcases List.mem_append.mp hf with hf | hf
    · split at hf
      · rename_i c hc
        rw [List.mem_singleton.mp hf]
        exact sound_addCause (feedCause_ne_safe hc)
      · cases hf
    · exact sound_visit sound_headEvent _ f hf
  · exact sound_visit sound_unwindEvent _ f hf

/-- The oldest segment leaves the map, reported or dropped (R121). -/
theorem sound_segmentLeft {g : Segment} {rest : List Segment} {s : State} (h : s.map.segments = g :: rest) :
    Sound s (segmentLeft g rest s) := by
  unfold segmentLeft
  exact { Sound.refl s with
    room := fun ⟨orders, contexts, plan, marks, segments, reports⟩ => by
      refine ⟨orders, contexts, plan, marks, ?_, ?_⟩
      · rw [h] at segments
        exact (Nat.le_succ _).trans segments
      · by_cases hr : s.exitUnit.reports.length < 16
        · simp [hr, Nat.lt_iff_add_one_le.mp hr]
        · simpa [hr] using reports
    counter := fun hs => by
      simp only [CounterInv, h, List.length_cons, BitVec.ofNat_add] at hs
      by_cases hr : s.exitUnit.reports.length < 16 <;> simp [CounterInv, hr, hs] <;> ac_rfl
    notice := fun hs => by
      by_cases hr : s.exitUnit.reports = []
      · simpa [NoticeInv, hr] using (sound_raise .reportReady s).notice hs
      · simpa [NoticeInv, hr] using hs }

/-- Whatever leaves the map at a carrier tick (R117). -/
theorem Exits.sound {s t : State} (h : Exits s t) : Sound s t := by
  induction h with
  | done s _ => exact Sound.refl s
  | leaves s m t g rest p hs _ _ hm _ ih => exact ((sound_segmentLeft hs).trans hm.sound).trans ih

theorem sound_carrierTickEvent (s : State) : Sound s (carrierTickEvent s) := by
  have ticked : ∀ c (p : Prop) {_ : Decidable p},
      Sound s (if p then addCause .positionEnd { s with carrier := c } else { s with carrier := c }) := fun c _ _ =>
    Sound.trans (t := { s with carrier := c }) (Alike.sound (by simp [Alike])) (sound_ite (fun _ => sound_addCause (by decide) _) fun _ => Sound.refl _)
  unfold carrierTickEvent
  dsimp only
  exact sound_ite (fun _ => (ticked _ _).trans (exits_judgeExits _ _ (Nat.le_refl _)).sound) (fun _ => ticked _ _)

/-! ## The Heat Unit (8.2 to 8.6) -/

/-- A change of one zone keeps ValveInv where the zone, if it supplies after it, may. -/
theorem sound_onZone {z : ZoneId} {f : Zone → Zone} {s : State}
    (h : ValveInv s → (f (s.heat.zones.get z)).phase = .supply →
      s.run.causes.safe = false ∧ (f (s.heat.zones.get z)).hot = false ∧ (s.heat.probes.get z).stale = false) :
    Sound s (onZone z f s) :=
  { Sound.refl s with
    valve := fun hs w hw => by
      by_cases hz : w = z
      · subst hz
        simp only [onZone, perZone_get_set] at hw ⊢
        exact h hs hw
      · simp only [onZone, perZone_get_set_other _ _ _ _ hz] at hw ⊢
        exact hs w hw }

/-- A change of a zone that leaves it supplying only where it did, its latch as it was or clear. -/
theorem sound_onZone_less {z : ZoneId} {f : Zone → Zone} {s : State}
    (h : (f (s.heat.zones.get z)).phase = .supply →
      (s.heat.zones.get z).phase = .supply ∧ ((s.heat.zones.get z).hot = false → (f (s.heat.zones.get z)).hot = false)) :
    Sound s (onZone z f s) :=
  sound_onZone fun hs hp =>
    have ⟨safe, hot, stale⟩ := hs z (h hp).1
    ⟨safe, (h hp).2 hot, stale⟩

theorem forceClose_phase_ne_supply (now : LineTime) (w : Zone) : (w.forceClose now).phase ≠ .supply := by
  rw [forceClose_eq]
  exact closedAt_phase_ne_supply now w

theorem sound_judgeHot (z : ZoneId) (s : State) : Sound s (judgeHot z s) := by
  refine sound_ite (fun _ => sound_ite (fun _ => Sound.refl s) (fun _ => ?_))
    (fun _ => sound_ite (fun _ => sound_onZone_less fun hp => ⟨hp, fun _ => rfl⟩) (fun _ => Sound.refl s))
  refine Sound.trans ?_ (sound_raise _ _)
  exact sound_onZone_less fun hp => absurd hp (forceClose_phase_ne_supply _ _)

/-- A change of a probe that does not make it stale. -/
theorem sound_onProbe {p : ZoneId} {f : Probe → Probe} {s : State}
    (h : (s.heat.probes.get p).stale = false → (f (s.heat.probes.get p)).stale = false) : Sound s (onProbe p f s) :=
  { Sound.refl s with
    valve := fun hs w hw => by
      obtain ⟨safe, hot, stale⟩ := hs w hw
      refine ⟨safe, hot, ?_⟩
      by_cases hz : w = p
      · subst hz
        simpa only [onProbe, perZone_get_set] using h stale
      · simpa only [onProbe, perZone_get_set_other _ _ _ _ hz] using stale }

/-- A probe that goes stale, with its zone forced closed (R130). -/
theorem sound_probeLost (p : ZoneId) (s : State) :
    Sound s
      (onZone p (fun z => z.forceClose s.lineTime) (onProbe p (fun q => { q with lastEdge := none, stale := true }) s)) :=
  { Sound.refl s with
    valve := fun hs w hw => by
      by_cases hz : w = p
      · subst hz
        simp only [onZone, perZone_get_set] at hw
        exact absurd hw (forceClose_phase_ne_supply _ _)
      · simp only [onZone, onProbe, perZone_get_set_other _ _ _ _ hz] at hw ⊢
        exact hs w hw }

/-- A period begins with supply only where R140 lets its duty be above 0. -/
theorem sound_periodBegin (z : ZoneId) (s : State) :
    Sound s (onZone z (fun w => w.begin (appliedDuty z s) s.heat.vMs s.heat.gMs s.lineTime) s) := by
  refine sound_onZone fun _ hp => ?_
  by_contra hc
  have hduty : appliedDuty z s = 0 := by
    refine if_pos ?_
    simp only [Zone.begin] at hc
    by_contra hn
    simp only [Bool.or_eq_true, not_or, Bool.not_eq_true] at hn
    exact hc ⟨hn.1.2, hn.1.1.2, hn.1.1.1⟩
  simp [Zone.begin, hduty, supplyTime] at hp

theorem endPause_phase_ne_supply (w : Zone) : w.endPause.phase ≠ .supply := by
  unfold Zone.endPause
  split <;> simp

theorem doseEvent_sound (s : State) : Sound s (doseEvent s) := by
  have visited : Sound s
      { s with
        map := { s.map with segments := (s.map.segments.map (doseSegment s.heat s.carrier.position)).map (·.1) }
        heat := { s.heat with lastDose := s.lineTime } } :=
    { Sound.refl s with
      valve := id
      room := roomInv_congr (by simp) (by simp) (by simp) (by simp) (by simp) (by simp)
      counter := counterInv_congr (by simp) (by simp) (by simp) (by simp) (by simp) }
  exact sound_ite (fun _ => visited.trans (sound_raise _ _)) (fun _ => visited)

theorem recalibrated_stale (q : Probe) (t : Vector CalPoint 8) : (q.recalibrated t).stale = q.stale := by
  unfold Probe.recalibrated
  (repeat' split) <;> rfl

theorem sound_rejudge (z : ZoneId) (s : State) : Sound s (rejudge z s) :=
  sound_ite (fun _ => sound_judgeHot z s) (fun _ => Sound.refl s)

theorem sound_setHeatSettings (args : List Byte) (s : State) : Sound s (setHeatSettings args s) := by
  unfold setHeatSettings
  exact { Sound.refl s with
    valve := fun hs z => by
      cases z with
      | z1 => exact hs .z1
      | z2 => exact hs .z2
      | z3 => exact hs .z3
      | z4 => exact hs .z4 }

end Sys2Proof.Machine

/-!
The links: the arbiter's choice and its counts (R181, R182), the taking of a request, and the transactions, all of them sound.
-/

namespace Sys2Proof.Machine

/-! ## The arbiter (R181) -/

/-- A link has a request waiting. -/
def waits (s : State) (l : Link) : Bool := !(s.links.get l).requests.isEmpty

/-- A link has a request waiting and has waited long enough to be promoted (R181). -/
def promoted (s : State) (l : Link) : Bool := waits s l && decide (s.starvation ≤ (s.links.get l).waitCount)

theorem waits_iff (s : State) (l : Link) : waits s l = true ↔ (s.links.get l).requests ≠ [] := by
  simp [waits]

theorem promoted_iff (s : State) (l : Link) :
    promoted s l = true ↔ (s.links.get l).requests ≠ [] ∧ s.starvation ≤ (s.links.get l).waitCount := by
  simp [promoted, waits]

/-- The arbiter's choice as a search in the fixed order LINE, UNWIND, PATTERN, the promoted links first. -/
theorem grantee_eq (s : State) :
    grantee s =
      if promoted s .line then some .line else if promoted s .unwind then some .unwind
      else if promoted s .pattern then some .pattern else if waits s .line then some .line
      else if waits s .unwind then some .unwind else if waits s .pattern then some .pattern else none := by
  have choice : ∀ w p : Link → Bool,
      (match (fixedOrder.filter w).find? p with
        | some l => some l
        | none => (fixedOrder.filter w).head?) =
      if w .line && p .line then some Link.line else if w .unwind && p .unwind then some .unwind
      else if w .pattern && p .pattern then some .pattern else if w .line then some .line
      else if w .unwind then some .unwind else if w .pattern then some .pattern else none := by
    intro w p
    unfold fixedOrder
    cases hl : w .line <;> cases hu : w .unwind <;> cases hq : w .pattern <;>
      simp [List.filter, hl, hu, hq, List.find?] <;> (repeat' split) <;> simp_all
  exact choice (waits s) (fun l => decide (s.starvation ≤ (s.links.get l).waitCount))

/-- The link that the arbiter chooses has a request. -/
theorem requests_of_grantee {s : State} {l : Link} (h : grantee s = some l) : (s.links.get l).requests ≠ [] := by
  rw [← waits_iff]
  rw [grantee_eq] at h
  simp only [promoted] at h
  grind

theorem granted_eq (p : LinkPort) (chosen : Bool) :
    p.granted chosen =
      if chosen then { p with requests := p.requests.tail, waitCount := 0 }
      else if p.requests = [] then p else { p with waitCount := p.waitCount + 1 } := by
  unfold LinkPort.granted
  cases hq : p.requests <;> simp

theorem grant_get (l m : Link) (s : State) :
    (grant l s).links.get m =
      if m = l then { s.links.get m with requests := (s.links.get m).requests.tail, waitCount := 0 }
      else if (s.links.get m).requests = [] then s.links.get m
      else { s.links.get m with waitCount := (s.links.get m).waitCount + 1 } := by
  have port : (grant l s).links.get m = (s.links.get m).granted (decide (m = l)) := by cases l <;> cases m <;> rfl
  rw [port, granted_eq]
  by_cases h : m = l
  · rw [if_pos (decide_eq_true h), if_pos h]
  · rw [if_neg (by simpa using h), if_neg h]

/-- A grant keeps the bounds of the head wait counts (R181, R182): the chosen link counts from 0, and a link passed over at its
bound is the one that the fixed order would have chosen before. -/
theorem waitInv_grant {s : State} {l : Link} (hg : grantee s = some l) (hs : WaitInv s) : WaitInv (grant l s) := by
  have hline := grant_get l .line s
  have hunwind := grant_get l .unwind s
  have hpattern := grant_get l .pattern s
  simp only [PerLink.get] at hline hunwind hpattern
  obtain ⟨low, high, empty, line, unwind, pattern, pair, alone, top⟩ := hs
  have eline := empty .line
  have eunwind := empty .unwind
  have epattern := empty .pattern
  simp only [PerLink.get] at eline eunwind epattern
  rw [grantee_eq] at hg
  simp only [promoted_iff, waits_iff, PerLink.get] at hg
  unfold WaitInv
  rw [hline, hunwind, hpattern]
  simp only [grant_starvation]
  refine ⟨low, high, ?_, ?_⟩
  · intro m hm
    rw [grant_get] at hm ⊢
    split at hm
    · rename_i h
      rw [if_pos h]
    · rename_i h
      rw [if_neg h]
      split at hm
      · rename_i h'
        rw [if_pos h']
        exact empty m hm
      · rename_i h'
        exact absurd hm h'
  · clear hline hunwind hpattern empty
    cases l <;> simp only [reduceCtorEq, if_false, if_true] <;> grind

/-! ## Ports -/

/-- A change of one port is sound where it keeps what the invariants of the links read of it. -/
theorem sound_onLink {l : Link} {f : LinkPort → LinkPort} {s : State}
    (hc : (f (s.links.get l)).requests.length + (f (s.links.get l)).responses.length ≤
        (s.links.get l).requests.length + (s.links.get l).responses.length ∨
      (f (s.links.get l)).requests.length + (f (s.links.get l)).responses.length ≤ 4)
    (hf : ∀ r, (f (s.links.get l)).transaction = some (.fetching (some r)) →
      ((s.links.get l).transaction = some (.fetching (some r)) → (s.links.get l).responses.head? = some r) →
      (f (s.links.get l)).responses.head? = some r)
    (hw : (f (s.links.get l)).waitCount = (s.links.get l).waitCount)
    (hq : (f (s.links.get l)).requests = [] → (s.links.get l).requests = []) : Sound s (onLink l f s) :=
  { Sound.refl s with
    credit := fun hs m => by
      by_cases hm : m = l
      · subst hm
        simp only [onLink, perLink_get_set]
        exact hc.elim (fun h => h.trans (hs m)) id
      · simp only [onLink, perLink_get_set_other _ _ _ _ hm]
        exact hs m
    fetch := fun hs m r hr => by
      by_cases hm : m = l
      · subst hm
        simp only [onLink, perLink_get_set] at hr ⊢
        exact hf r hr (hs m r)
      · simp only [onLink, perLink_get_set_other _ _ _ _ hm] at hr ⊢
        exact hs m r hr
    wait := fun ⟨low, high, empty, bounds⟩ => by
      have counts : ∀ m, ((onLink l f s).links.get m).waitCount = (s.links.get m).waitCount := fun m => by
        by_cases hm : m = l
        · subst hm
          simpa only [onLink, perLink_get_set] using hw
        · simp only [onLink, perLink_get_set_other _ _ _ _ hm]
      refine ⟨low, high, fun m hm => ?_, ?_⟩
      · rw [counts m]
        by_cases h : m = l
        · subst h
          exact empty m (hq (by simpa only [onLink, perLink_get_set] using hm))
        · exact empty m (by simpa only [onLink, perLink_get_set_other _ _ _ _ h] using hm)
      · have hline := counts .line
        have hpattern := counts .pattern
        have hunwind := counts .unwind
        simp only [PerLink.get] at hline hpattern hunwind
        rw [hline, hpattern, hunwind]
        exact bounds }

theorem sound_grant {s : State} {l : Link} (hg : grantee s = some l) : Sound s (grant l s) :=
  { Sound.refl s with
    credit := fun hs m => by
      have hm := hs m
      rw [grant_get]
      (repeat' split) <;> simp <;> omega
    fetch := fun hs m r hr => by
      have hm := hs m r
      rw [grant_get] at hr ⊢
      (repeat' split at hr) <;> simp_all
    wait := waitInv_grant hg }

/-! ## Taking a request (R183) -/

/-- The response to a granted request takes the credit that the request gave back; whatever was done between them left the ports
alone. -/
theorem sound_respond {s v : State} {l : Link} (hg : grantee s = some l) (hv : Sound (grant l s) v)
    (hl : v.links = (grant l s).links) (code : Byte) (res : ResultCode) (d : List Byte) :
    Sound s (respond l code res d v) := by
  have hsv : Sound s v := (sound_grant hg).trans hv
  have other : ∀ m, m ≠ l → (respond l code res d v).links.get m = v.links.get m := fun m hm =>
    perLink_get_set_other _ _ _ _ hm
  have own : (respond l code res d v).links.get l =
      { v.links.get l with responses := (v.links.get l).responses ++ [⟨code, res, d⟩] } := perLink_get_set _ _ _
  have stands : ∀ m, ((respond l code res d v).links.get m).requests = (v.links.get m).requests ∧
      ((respond l code res d v).links.get m).waitCount = (v.links.get m).waitCount := fun m => by
    by_cases hm : m = l
    · subst hm
      rw [own]
      exact ⟨rfl, rfl⟩
    · rw [other m hm]
      exact ⟨rfl, rfl⟩
  have hrest : Sound s { respond l code res d v with links := v.links, starvation := v.starvation } := hsv
  exact { hrest with
    credit := fun hs m => by
      by_cases hm : m = l
      · subst hm
        have hbefore := hs m
        have hsome := List.length_pos_of_ne_nil (requests_of_grantee hg)
        rw [own, hl, grant_get, if_pos rfl]
        simp only [List.length_append, List.length_tail, List.length_singleton]
        omega
      · rw [other m hm]
        exact hsv.credit hs m
    fetch := fun hs m r hr => by
      have hfront := hsv.fetch hs m r
      by_cases hm : m = l
      · subst hm
        rw [own] at hr ⊢
        rw [List.head?_append, hfront hr]
        rfl
      · rw [other m hm] at hr ⊢
        exact hfront hr
    wait := fun hs => by
      obtain ⟨low, high, empty, bounds⟩ := hsv.wait hs
      refine ⟨low, high, fun m hm => ?_, ?_⟩
      · rw [(stands m).2]
        exact empty m (by rwa [(stands m).1] at hm)
      · have hline := (stands .line).2
        have hpattern := (stands .pattern).2
        have hunwind := (stands .unwind).2
        simp only [PerLink.get] at hline hpattern hunwind
        rw [hline, hpattern, hunwind]
        exact bounds }

theorem sound_refuse {s : State} {l : Link} (hg : grantee s = some l) (code : Byte) (why : ResultCode) :
    Sound s (refuse l code why (grant l s)) :=
  (sound_respond hg (Sound.refl _) rfl code why []).trans (sound_recordFault _ _ _ _)

/-- What a rule's own answer may be for the taking to be sound: a refusal, or a sound change that leaves the ports alone. -/
def ReplySound (s : State) : Reply → Prop
  | .granted t _ => Sound s t ∧ t.links = s.links
  | .refused _ => True

theorem replySound_ite {s : State} {p : Prop} {_ : Decidable p} {a b : Reply} (ha : p → ReplySound s a)
    (hb : ¬p → ReplySound s b) : ReplySound s (if p then a else b) := by
  split
  case isTrue h => exact ha h
  case isFalse h => exact hb h

theorem sound_takeRequest {c : RequestCode} {rule : Link → List Byte → State → Reply} (s : State)
    (h : ∀ l r, Taking c l r s → ReplySound (grant l s) (rule l r.args (grant l s))) :
    Sound s (takeRequest c rule s) := by
  rcases takeRequest_cases c rule s with hs | ⟨l, r, -, hg, -, -, hs | hs | ⟨ht, hs⟩⟩ <;> rw [hs]
  · exact Sound.refl s
  · exact sound_refuse hg _ _
  · exact sound_refuse hg _ _
  · have hr := h l r ht
    cases hrule : rule l r.args (grant l s) with
    | granted t d =>
      rw [hrule] at hr
      exact sound_respond hg hr.1 hr.2 _ _ _
    | refused why => exact sound_refuse hg _ _

/-- A request whose rule is sound in every state. -/
theorem sound_takeRequest_of_rule {c : RequestCode} {rule : Link → List Byte → State → Reply}
    (h : ∀ l args s, ReplySound s (rule l args s)) (s : State) : Sound s (takeRequest c rule s) :=
  sound_takeRequest s fun l r _ => h l r.args (grant l s)

theorem sound_takeUnassigned (s : State) : Sound s (takeUnassigned s) := by
  unfold takeUnassigned
  refine sound_ite (fun _ => Sound.refl s) (fun _ => ?_)
  split
  · exact Sound.refl s
  · rename_i hg
    split
    · exact Sound.refl s
    · exact sound_ite (fun _ => sound_refuse hg _ _) (fun _ => Sound.refl s)

/-! ## Transactions (R177 to R180) -/

/-- A change of the record of a transaction that starts no fetch. -/
theorem sound_transaction {l : Link} {f : LinkPort → LinkPort} {s : State}
    (hf : ∀ r, (f (s.links.get l)).transaction ≠ some (.fetching (some r)))
    (hq : (f (s.links.get l)).requests = (s.links.get l).requests)
    (hr : (f (s.links.get l)).responses = (s.links.get l).responses)
    (hw : (f (s.links.get l)).waitCount = (s.links.get l).waitCount) : Sound s (onLink l f s) :=
  sound_onLink (.inl (by rw [hq, hr])) (fun r h => absurd h (hf r)) hw (fun h => hq ▸ h)

theorem sound_beginTransaction (l : Link) (s : State) : Sound s (beginTransaction l s) :=
  sound_ite (fun _ => Sound.refl s) (fun _ => sound_transaction (by simp) rfl rfl rfl)

theorem sound_endTransaction (l : Link) (out : List Byte) (s : State) : Sound s (endTransaction l out s) :=
  sound_transaction (by simp) rfl rfl rfl

theorem sound_cutTransaction (l : Link) (status : Byte) (n : Nat) (s : State) : Sound s (cutTransaction l status n s) :=
  sound_transaction (by simp) rfl rfl rfl

/-- The completion of an operation: a fetch takes up the response at the front (R180). -/
theorem sound_completeOperation {l : Link} {phase : TransactionPhase} {s : State}
    (h : ∀ r, phase = .fetching (some r) → (s.links.get l).responses.head? = some r) (status : Byte) (n : Nat) :
    Sound s (completeOperation l phase status n s) :=
  sound_onLink (.inl (Nat.le_refl _)) (fun r hr _ => h r (Option.some.inj hr)) rfl id

/-- A change of a port that its invariants do not see. -/
theorem sound_portFlag {l : Link} {f : LinkPort → LinkPort} {s : State}
    (ht : (f (s.links.get l)).transaction = (s.links.get l).transaction)
    (hq : (f (s.links.get l)).requests = (s.links.get l).requests)
    (hr : (f (s.links.get l)).responses = (s.links.get l).responses)
    (hw : (f (s.links.get l)).waitCount = (s.links.get l).waitCount) : Sound s (onLink l f s) :=
  sound_onLink (.inl (by rw [hq, hr])) (fun r h k => hr ▸ k (ht ▸ h)) hw (fun h => hq ▸ h)

theorem sound_acceptFrame (l : Link) (r : QueuedRequest) (s : State) : Sound s (acceptFrame l r s) := by
  refine sound_ite (fun hc => sound_onLink (.inr ?_) (fun _ h k => k h) rfl (fun h => ?_))
    (fun _ => (sound_portFlag rfl rfl rfl rfl).trans (sound_recordFault _ _ _ _))
  · simp only [LinkPort.credits] at hc
    simp only [List.length_append, List.length_singleton]
    omega
  · exact absurd h (by simp)

end Sys2Proof.Machine

/-!
The rules of the requests are sound, and so is every command (O51 to O56, O58, O59).
-/

namespace Sys2Proof.Machine

/-! ## The rules of Run Control (6.3 to 6.7) -/

/-- The run state moves between states other than HALTED, the cause set as it was. -/
theorem sound_runState {s : State} {r : RunState} {time : LineTime} (h : s.run.state ≠ .halted) (hr : r ≠ .halted) :
    Sound s { s with run := { s.run with state := r, lastChange := time } } :=
  { Sound.refl s with
    halt := fun hs => by
      have hnone : s.run.causes = CauseSet.none := by
        by_contra hc
        exact h (hs.mpr hc)
      simp [HaltInv, hr, hnone] }

theorem replySound_run (l : Link) (args : List Byte) (s : State) : ReplySound s (ruleRun l args s) := by
  refine replySound_ite (fun _ => trivial) fun hs => replySound_ite (fun _ => trivial) fun _ => ⟨?_, by simp [enterRunning]⟩
  have moved : Sound s { s with run := { s.run with state := .running, lastChange := s.lineTime } } :=
    sound_runState (by simp [not_not.mp hs]) (by simp)
  have entered : Sound s { s with
      run := { s.run with state := .running, lastChange := s.lineTime }, feed := { s.feed with excursion := 0 } } :=
    { moved with }
  exact entered.trans (sound_trySearch _)

theorem producing_of_running {s : State} (h : s.run.state = .running) : producing s = true :=
  (producing_iff s).mpr (.inl h)

theorem replySound_drain (l : Link) (args : List Byte) (s : State) : ReplySound s (ruleDrain l args s) := by
  refine replySound_ite (fun _ => trivial) fun hs => ?_
  have hr : s.run.state = .running := not_not.mp hs
  refine replySound_ite (fun _ => ⟨?_, by simp⟩) fun _ => ⟨sound_runState (by simp [hr]) (by simp), rfl⟩
  exact (sound_enterStopped (producing_of_running hr)).trans (sound_raise _ _)

theorem replySound_stop (l : Link) (args : List Byte) (s : State) : ReplySound s (ruleStop l args s) :=
  replySound_ite (fun h => ⟨sound_enterStopped h, by simp⟩) (fun _ => trivial)

theorem replySound_halt (l : Link) (args : List Byte) (s : State) : ReplySound s (ruleHalt l args s) :=
  ⟨sound_addCause (by decide) s, by simp⟩

theorem sound_resumeLine (s : State) : Sound s (resumeLine s) := by
  have emptied : Sound s
      { s with run := { s.run with state := .stopped, causes := CauseSet.none, lastChange := s.lineTime } } :=
    { Sound.refl s with
      halt := fun _ => by simp [HaltInv]
      head := fun _ ⟨blade, clamp, inCycle, pending, _⟩ => ⟨blade, clamp, inCycle, pending, by simp [CauseSet.none]⟩
      splice := fun _ ⟨out, _⟩ => ⟨out, by simp [CauseSet.none]⟩
      valve := fun hs z hz => ⟨rfl, (hs z hz).2⟩ }
  exact sound_ite (fun _ => (emptied.trans (sound_settleClamp _)).trans (sound_presentLatch _)) (fun _ => emptied)

theorem replySound_resume (l : Link) (args : List Byte) (s : State) : ReplySound s (ruleResume l args s) :=
  replySound_ite (fun _ => trivial) fun _ => replySound_ite (fun _ => trivial) fun _ =>
    ⟨sound_resumeLine s, by unfold resumeLine; split <;> simp⟩

/-- Releasing one reference after another is sound. -/
theorem sound_dropRefs {α : Type} (f : α → Fin 16) (xs : List α) (s : State) :
    Sound s (xs.foldl (fun u x => dropRef (f x) u) s) := by
  induction xs generalizing s with
  | nil => exact Sound.refl s
  | cons x xs ih => exact (sound_dropRef _ s).trans (ih _)

/-- Whatever the number of references released, the ports stand. -/
theorem dropRefs_links {α : Type} (f : α → Fin 16) (xs : List α) (s : State) :
    (xs.foldl (fun u x => dropRef (f x) u) s).links = s.links := by
  induction xs generalizing s with
  | nil => rfl
  | cons x xs ih => exact (ih _).trans (by simp)

theorem sound_clearPlanner (s : State) : Sound s (clearPlanner s) := by
  refine Sound.trans ?_ (sound_dropRefs (fun c : Context => c.slot) _ _)
  exact { Sound.refl s with
    room := roomInv_congr (by simp) (by simp) (by simp) (by simp) (by simp) (by simp)
    plan := fun _ => ⟨List.Pairwise.nil, by simp⟩ }

theorem sound_clearMap (s : State) : Sound s (clearMap s) := by
  unfold clearMap
  exact { Sound.refl s with
    room := roomInv_congr (by simp) (by simp) (by simp) (by simp) (by simp) (by simp)
    counter := fun hs => by
      simp only [CounterInv] at hs ⊢
      rw [hs]
      simp only [List.length_nil, BitVec.zero_add]
      ac_rfl }

theorem cleared_inProgress (u : UnwindUnit) (feed : Nat) :
    (Splice.cleared u feed).inProgress = u.splice.inProgress := by
  unfold Splice.cleared
  (repeat' split) <;> rename_i h <;> simp_all [Splice.inProgress]

theorem sound_clearUnwind (feed : Nat) (s : State) : Sound s (clearUnwind feed s) :=
  sound_unwind (fun _ hs => by simpa only [SpliceInv, cleared_inProgress] using hs) id

theorem sound_clearHead (s : State) : Sound s (clearHead s) :=
  (sound_head fun _ ⟨blade, clamp, inCycle, _, safe⟩ => ⟨blade, clamp, inCycle, by simp, safe⟩).trans
    (sound_refreshCeiling _)

theorem sound_clearPositions (s : State) : Sound s (clearPositions s) := by
  unfold clearPositions
  exact Alike.sound (by simp [Alike])

theorem sound_lineClear (s : State) : Sound s (lineClear s) :=
  (((((sound_clearPositions s).trans (sound_clearPlanner _)).trans
    (sound_marks (m := { (clearPlanner (clearPositions s)).marks with list := [], measurement := none, last := none })
      (Nat.zero_le _) (.inl rfl))).trans (sound_clearHead _)).trans (sound_clearMap _)).trans (sound_clearUnwind _ _)

theorem replySound_clearLine (l : Link) (args : List Byte) (s : State) : ReplySound s (ruleClearLine l args s) :=
  replySound_ite (fun _ => ⟨sound_lineClear s, dropRefs_links (fun c : Context => c.slot) _ _⟩) (fun _ => trivial)

/-! ## The settings -/

theorem sound_settleStandstill (s : State) : Sound s (settleStandstill s) := by
  unfold settleStandstill
  exact Alike.sound (by simp [Alike])

theorem replySound_setTracking (l : Link) (args : List Byte) (s : State) : ReplySound s (ruleSetTracking l args s) :=
  replySound_ite (fun _ => trivial) fun _ => replySound_ite (fun _ => trivial) fun _ =>
    replySound_ite (fun _ => trivial) fun _ => ⟨Sound.trans (t := { s with tracking := trackingSettingsOf args }) (Alike.sound (by simp [Alike])) (sound_settleStandstill _), rfl⟩

theorem sound_setup (setup : HeadSetup) (s : State) : Sound s { s with head := { s.head with setup := setup } } :=
  sound_head fun _ hs => headInv_same hs rfl rfl rfl rfl rfl rfl rfl

theorem replySound_setHead (l : Link) (args : List Byte) (s : State) : ReplySound s (ruleSetHead l args s) :=
  replySound_ite (fun _ => trivial) fun _ => replySound_ite (fun _ => trivial) fun _ =>
    ⟨(sound_setup _ s).trans (sound_refreshCeiling _), rfl⟩

theorem replySound_setCalibration (l : Link) (args : List Byte) (s : State) :
    ReplySound s (ruleSetCalibration l args s) := by
  refine replySound_ite (fun _ => trivial) fun _ => ?_
  split
  · trivial
  · have changed := fun p => sound_onProbe (p := p) (f := fun q => q.recalibrated (calTableOf args)) (s := s)
      (fun h => (recalibrated_stale _ _).trans h)
    refine replySound_ite (fun _ => trivial) fun _ => ⟨?_, ?_⟩
    · exact sound_ite (fun _ => (changed _).trans (sound_judgeHot _ _)) (fun _ => changed _)
    · split <;> simp

@[simp] theorem rejudge_links (z : ZoneId) (s : State) : (rejudge z s).links = s.links := by
  unfold rejudge
  split <;> simp

theorem replySound_setHeat (l : Link) (args : List Byte) (s : State) : ReplySound s (ruleSetHeat l args s) :=
  replySound_ite (fun _ => trivial) fun _ => replySound_ite (fun _ => trivial) fun _ =>
    ⟨((((sound_setHeatSettings args s).trans (sound_rejudge .z1 _)).trans (sound_rejudge .z2 _)).trans
      (sound_rejudge .z3 _)).trans (sound_rejudge .z4 _), by simp [setHeatSettings]⟩

theorem replySound_setZoneDuty (l : Link) (args : List Byte) (s : State) : ReplySound s (ruleSetZoneDuty l args s) := by
  unfold ruleSetZoneDuty
  split
  · trivial
  · exact ⟨sound_onZone_less fun h => ⟨h, id⟩, rfl⟩

/-- A new starvation limit comes with the counts of PATTERN and UNWIND at 0, no request waiting there, and of LINE at 0, whose
request it was (R188). -/
theorem replySound_setLinks {l : Link} {r : QueuedRequest} {s : State} (h : Taking .setLinks l r s) :
    ReplySound (grant l s) (ruleSetLinks l r.args (grant l s)) := by
  obtain ⟨-, -, -, -, hlink, -, -⟩ := h
  obtain rfl : l = .line := eq_of_beq hlink
  refine replySound_ite (fun _ => trivial) fun hq => replySound_ite (fun _ => trivial) fun hn => ⟨?_, rfl⟩
  simp only [Bool.not_eq_true', Bool.not_eq_false, Bool.and_eq_true, List.isEmpty_iff] at hq
  simp only [inRange, Bool.not_eq_true', Bool.not_eq_false, Bool.and_eq_true, decide_eq_true_eq] at hn
  exact { Sound.refl _ with
    wait := fun ⟨_, _, empty, _⟩ => by
      have hpattern : (grant .line s).links.pattern.waitCount = 0 := empty .pattern hq.1
      have hunwind : (grant .line s).links.unwind.waitCount = 0 := empty .unwind hq.2
      have hline : (grant .line s).links.line.waitCount = 0 := rfl
      refine ⟨hn.1, hn.2, empty, ?_⟩
      simp only [hpattern, hunwind, hline]
      omega }

/-! ## The Pattern Store and the Panel Queue -/

theorem sound_setSlot (i : Fin 16) (sl : Slot) (s : State) : Sound s (setSlot i sl s) := Alike.sound (by simp [Alike])

theorem replySound_setSlot (i : Fin 16) (sl : Slot) (s : State) (d : List Byte) :
    ReplySound s (.granted (setSlot i sl s) d) := ⟨sound_setSlot i sl s, rfl⟩

theorem replySound_openPattern (l : Link) (args : List Byte) (s : State) : ReplySound s (ruleOpenPattern l args s) := by
  unfold ruleOpenPattern
  (repeat' split) <;> first | trivial | exact replySound_setSlot _ _ _ _

theorem replySound_addSteps (l : Link) (args : List Byte) (s : State) : ReplySound s (ruleAddSteps l args s) := by
  unfold ruleAddSteps
  dsimp only
  (repeat' split) <;> first | trivial | exact replySound_setSlot _ _ _ _

theorem replySound_closePattern (l : Link) (args : List Byte) (s : State) : ReplySound s (ruleClosePattern l args s) := by
  unfold ruleClosePattern
  (repeat' split) <;> first | trivial | exact replySound_setSlot _ _ _ _

theorem replySound_discardPattern (l : Link) (args : List Byte) (s : State) :
    ReplySound s (ruleDiscardPattern l args s) := by
  unfold ruleDiscardPattern
  (repeat' split) <;> first | trivial | exact replySound_setSlot _ _ _ _

theorem sound_addRef (i : Fin 16) (s : State) : Sound s (addRef i s) := Alike.sound (by simp [Alike])

theorem replySound_queuePanel (l : Link) (args : List Byte) (s : State) : ReplySound s (ruleQueuePanel l args s) := by
  unfold ruleQueuePanel
  split
  · trivial
  refine replySound_ite (fun _ => trivial) fun _ => replySound_ite (fun _ => trivial) fun _ =>
    replySound_ite (fun _ => trivial) fun hroom => ⟨?_, by simp⟩
  have queued : ∀ o : PanelOrder, Sound s { s with orders := s.orders ++ [o] } := fun o =>
    { Sound.refl s with room := fun ⟨_, rest⟩ => ⟨by simp; omega, rest⟩ }
  exact (queued _).trans (sound_addRef _ _)

theorem replySound_cancelPanel (l : Link) (args : List Byte) (s : State) : ReplySound s (ruleCancelPanel l args s) := by
  refine replySound_ite (fun _ => trivial) fun _ => ?_
  unfold cancelOrders
  dsimp only
  have kept := (sound_planner (s := s) (p := s.planner) (List.length_filter_le (fun o => o.tag != field args 0 4) s.orders)
    (.inl (Nat.le_refl _)) rfl).trans
    (sound_dropRefs (fun o : PanelOrder => o.slot) (s.orders.filter (fun o => o.tag == field args 0 4)) _)
  refine ⟨sound_ite (fun _ => kept.trans (sound_raise _ _)) (fun _ => kept), ?_⟩
  split <;> exact dropRefs_links (fun o : PanelOrder => o.slot) _ _

/-! ## The unwind -/

/-- A record put in place that is not RUNNING leaves at most one RUNNING. -/
theorem sound_setRoll {side : Side} {r : Option RollRecord} (h : rollIs .running r = false) (s : State) :
    Sound s (setRoll side r s) := by
  refine sound_unwind (fun _ => id) (fun hs => ?_)
  cases side <;> simp [RollInv, PerSide.set, h]

theorem rollIs_setPhase {p q : RollPhase} (h : p ≠ q) (r : Option RollRecord) : rollIs p (setPhase q r) = false := by
  cases r with
  | none => rfl
  | some r => exact beq_eq_false_iff_ne.mpr (Ne.symm h)

theorem replySound_loadRoll (l : Link) (args : List Byte) (s : State) : ReplySound s (ruleLoadRoll l args s) := by
  unfold ruleLoadRoll
  split
  · trivial
  · exact replySound_ite (fun _ => trivial) fun _ =>
      replySound_ite (fun _ => ⟨sound_setRoll rfl s, rfl⟩) (fun _ => trivial)

theorem replySound_rollReady (l : Link) (args : List Byte) (s : State) : ReplySound s (ruleRollReady l args s) := by
  unfold ruleRollReady
  split
  · trivial
  · refine replySound_ite (fun _ => trivial) fun _ => ?_
    have ready := fun i => sound_setRoll (side := i) (rollIs_setPhase (by decide : RollPhase.running ≠ .ready)
      (s.unwind.rolls.get i)) s
    exact ⟨sound_ite (fun _ => (ready _).trans (sound_trySearch _)) (fun _ => ready _), by split <;> simp⟩

theorem replySound_rollWithdraw (l : Link) (args : List Byte) (s : State) : ReplySound s (ruleRollWithdraw l args s) := by
  unfold ruleRollWithdraw
  split
  · trivial
  · refine replySound_ite (fun _ => trivial) fun _ => replySound_ite (fun _ => trivial) fun _ => ?_
    have loaded := fun i => sound_setRoll (side := i) (rollIs_setPhase (by decide : RollPhase.running ≠ .loaded)
      (s.unwind.rolls.get i)) s
    refine replySound_ite (fun _ => ⟨?_, rfl⟩) (fun _ => ⟨loaded _, rfl⟩)
    exact ((loaded _).trans (sound_splice (by rw [backToDue_eq, dueAgain_inProgress]))).trans (sound_raise _ _)

theorem replySound_rollAssign (l : Link) (args : List Byte) (s : State) : ReplySound s (ruleRollAssign l args s) := by
  unfold ruleRollAssign
  split
  · trivial
  · refine replySound_ite (fun _ => trivial) fun hrest => replySound_ite (fun _ => trivial) fun _ => ⟨?_, by simp⟩
    simp only [Bool.or_eq_true, not_or, Bool.not_eq_true] at hrest
    refine Sound.trans ?_ (sound_judgeReserves _)
    refine sound_unwind (fun _ ⟨out, _⟩ => ⟨fun _ => out hrest.2, fun _ => rfl⟩) (fun _ => ?_)
    refine rollInv_set_other _ _ _ _ rfl ?_
    split
    · exact rollIs_setPhase (by decide) _
    · rename_i h
      simp only [Bool.or_eq_true, not_or, Bool.not_eq_true] at h
      exact h.1

theorem replySound_spliceNow (l : Link) (args : List Byte) (s : State) : ReplySound s (ruleSpliceNow l args s) := by
  refine replySound_ite (fun _ => trivial) fun h => replySound_ite (fun _ => trivial) fun _ =>
    ⟨sound_enterDue _ ?_, by simp⟩
  simp only [not_or, not_not] at h
  rw [h.1]
  rfl

theorem resettled_inProgress {u : UnwindUnit} (h : u.splice.inProgress = false) :
    (Splice.resettled u).inProgress = false := by
  have hd : u.splice.backToDue.inProgress = false := by rw [backToDue_eq, dueAgain_inProgress, h]
  unfold Splice.resettled
  split
  · split <;> rfl
  · exact hd

theorem replySound_setUnwind (l : Link) (args : List Byte) (s : State) : ReplySound s (ruleSetUnwind l args s) := by
  refine replySound_ite (fun _ => trivial) fun hrest => replySound_ite (fun _ => trivial) fun _ => ⟨?_, by simp⟩
  simp only [Bool.or_eq_true, not_or, Bool.not_eq_true] at hrest
  refine Sound.trans ?_ (sound_judgeReserves _)
  refine sound_unwind (fun _ ⟨out, _⟩ => ⟨fun _ => out hrest.2, fun _ => resettled_inProgress hrest.2⟩) id

/-! ## Reports, notices, reads -/

theorem replySound_takeReport (l : Link) (args : List Byte) (s : State) : ReplySound s (ruleTakeReport l args s) := by
  unfold ruleTakeReport
  split
  · exact ⟨Sound.refl s, rfl⟩
  · rename_i h
    exact ⟨Alike.sound (by simp [Alike, h]), rfl⟩

/-- A link's box of notices replaced by one whose codes it subscribes to, in rank order. -/
theorem sound_noticeBox {l : Link} {b : NoticeBox} {s : State}
    (h : NoticeInv s → (∀ n ∈ b.pendingSet, b.subscription.holds n = true) ∧ (b.pendingSet.map Notice.rank).Pairwise (· < ·)) :
    Sound s { s with notices := s.notices.set l b } :=
  { Sound.refl s with
    notice := fun hs m => by
      by_cases hm : m = l
      · subst hm
        simpa only [perLink_get_set] using h hs
      · simpa only [perLink_get_set_other _ _ _ _ hm] using hs m }

theorem replySound_subscribe (l : Link) (args : List Byte) (s : State) : ReplySound s (ruleSubscribe l args s) := by
  refine replySound_ite (fun _ => trivial) fun _ => ⟨sound_noticeBox fun hs => ⟨fun n hn => ?_, ?_⟩, rfl⟩
  · exact (List.mem_filter.mp hn).2
  · exact (hs l).2.sublist (List.filter_sublist.map _)

theorem replySound_takeNotice (l : Link) (args : List Byte) (s : State) : ReplySound s (ruleTakeNotice l args s) := by
  unfold ruleTakeNotice
  split
  · exact ⟨Sound.refl s, rfl⟩
  · rename_i n rest hp
    refine ⟨sound_noticeBox fun hs => ?_, rfl⟩
    obtain ⟨mine, ranked⟩ := hs l
    rw [hp] at mine ranked
    exact ⟨fun m hm => mine m (List.mem_cons_of_mem n hm), (List.pairwise_cons.mp ranked).2⟩

theorem replySound_readFault (l : Link) (args : List Byte) (s : State) : ReplySound s (ruleReadFault l args s) :=
  ⟨Alike.sound (by simp [Alike]), rfl⟩

/-- A rule that only reads: it leaves the state as it was, or refuses. -/
def Reads (rule : Link → List Byte → State → Reply) : Prop :=
  ∀ l args s, (∃ d, rule l args s = .granted s d) ∨ ∃ why, rule l args s = .refused why

theorem replySound_of_reads {rule : Link → List Byte → State → Reply} (h : Reads rule) (l : Link) (args : List Byte)
    (s : State) : ReplySound s (rule l args s) := by
  rcases h l args s with ⟨d, hd⟩ | ⟨why, hw⟩
  · rw [hd]
    exact ⟨Sound.refl s, rfl⟩
  · rw [hw]
    trivial

theorem reads_tracking : Reads ruleReadTracking := fun _ _ _ => .inl ⟨_, rfl⟩
theorem reads_head : Reads ruleReadHead := fun _ _ _ => .inl ⟨_, rfl⟩
theorem reads_run : Reads ruleReadRun := fun _ _ _ => .inl ⟨_, rfl⟩
theorem reads_unwind : Reads ruleReadUnwind := fun _ _ _ => .inl ⟨_, rfl⟩
theorem reads_status : Reads ruleReadStatus := fun _ _ _ => .inl ⟨_, rfl⟩
theorem reads_time : Reads ruleReadTime := fun _ _ _ => .inl ⟨_, rfl⟩

/-- A rule that answers with fields or a refusal, by a check of its arguments. -/
theorem reads_ite {s : State} {p : Prop} {_ : Decidable p} {why : ResultCode} {d : List Byte} :
    (∃ d', (if p then Reply.refused why else .granted s d) = .granted s d') ∨
      ∃ w, (if p then Reply.refused why else .granted s d) = .refused w := by
  split
  case isTrue => exact .inr ⟨_, rfl⟩
  case isFalse => exact .inl ⟨_, rfl⟩

theorem reads_queue : Reads ruleReadQueue := fun _ _ _ => reads_ite
theorem reads_plan : Reads ruleReadPlan := fun _ _ _ => reads_ite
theorem reads_marks : Reads ruleReadMarks := fun _ _ _ => reads_ite
theorem reads_map : Reads ruleReadMap := fun _ _ _ => reads_ite

theorem reads_pattern : Reads ruleReadPattern := fun l args s => by
  unfold ruleReadPattern
  split
  · exact .inr ⟨_, rfl⟩
  · exact reads_ite

theorem reads_heat : Reads ruleReadHeat := fun l args s => by
  unfold ruleReadHeat
  split
  · exact .inr ⟨_, rfl⟩
  · exact .inl ⟨_, rfl⟩

end Sys2Proof.Machine

/-!
Every command is sound, so the invariants hold along every run (O3, O51 to O56, O58 to O60), and the one that a hard reset's end can
break (O57).
-/

namespace Sys2Proof.Machine

/-! ## Resets -/

/-- The invariants of the relation `Sound`, but those of the slots, hold of the values that a reset gives. -/
theorem invariants_afterReset (time : LineTime) (levels : InputLevels) (slots : Vector Slot 16) (kind : ResetKind) :
    let t := State.afterReset time levels slots kind
    HaltInv t ∧ HeadInv t ∧ SpliceInv t ∧ RollInv t ∧ ValveInv t ∧ RoomInv t ∧ CreditInv t ∧ FetchInv t ∧ WaitInv t ∧
      CounterInv t ∧ PlanInv t ∧ FactorInv t ∧ NoticeInv t := by
  have ports : ∀ l, (State.afterReset time levels slots kind).links.get l = LinkPort.fresh := by intro l; cases l <;> rfl
  refine ⟨?halt, ?head, ?splice, ?roll, ?valve, ?room, ?credit, ?fetch, ?wait, ?counter, ?plan, ?factor, ?notice⟩
  case halt => simp [HaltInv, State.afterReset]
  case head => simp [HeadInv, State.afterReset, BladeCycle.isStrike, BladeCycle.isIdle]
  case splice => simp [SpliceInv, State.afterReset, Splice.inProgress]
  case roll => simp [RollInv, State.afterReset, rollIs]
  case valve =>
    intro z hz
    cases z <;> simp [State.afterReset, PerZone.get, Zone.fresh] at hz
  case room => simp [RoomInv, State.afterReset]
  case credit =>
    intro l
    rw [ports l]
    simp [LinkPort.fresh]
  case fetch =>
    intro l r hr
    rw [ports l] at hr
    cases hr
  case wait =>
    refine ⟨by simp [State.afterReset], by simp [State.afterReset], fun l _ => ?_, ?_⟩
    · rw [ports l]
      rfl
    · simp [State.afterReset, LinkPort.fresh]
  case counter => rfl
  case plan => exact ⟨List.Pairwise.nil, by simp [State.afterReset]⟩
  case factor => simp [FactorInv, State.afterReset]
  case notice =>
    intro l
    have hl : (State.afterReset time levels slots kind).notices.get l = NoticeBox.freshAll.get l := rfl
    rw [hl, freshAll_pendingSet]
    simp

/-- The values of a reset are sound after any state: they hold every invariant by themselves. -/
theorem sound_afterReset (time : LineTime) (levels : InputLevels) (slots : Vector Slot 16) (kind : ResetKind) (s : State) :
    Sound s ((State.afterReset time levels slots kind).carryOver s) := by
  obtain ⟨halt, head, splice, roll, valve, room, credit, fetch, wait, counter, plan, factor, notice⟩ :=
    invariants_afterReset time levels slots kind
  exact ⟨fun _ => halt, fun _ _ => head, fun _ _ => splice, fun _ => roll, fun _ => valve, fun _ => room, fun _ => credit,
    fun _ => fetch, fun _ => wait, fun _ => counter, fun _ => plan, fun _ => factor, fun _ => notice, rfl⟩

theorem sound_sampleSafe (s : State) : Sound s (sampleSafe s) :=
  sound_ite (fun _ => sound_assertSafe s) (fun _ => Sound.refl s)

theorem sound_holdZones (s : State) : Sound s (holdZones s) := by
  unfold holdZones
  exact { Sound.refl s with valve := fun _ z hz => by cases z <;> cases hz }

/-! ## Every command -/

/-- A command ends in a next state that is sound after the state it was taken in. -/
def SoundOutcome (s : State) (o : Host.Outcome State Fault Refusal) : Prop := ∃ t, o = .next t ∧ Sound s t

theorem soundOutcome_next {s t : State} (h : Sound s t) : SoundOutcome s (.next t) := ⟨t, rfl, h⟩

theorem soundOutcome_ite {s : State} {p : Prop} {_ : Decidable p} {a b : Host.Outcome State Fault Refusal}
    (ha : p → SoundOutcome s a) (hb : ¬p → SoundOutcome s b) : SoundOutcome s (if p then a else b) := by
  split
  case isTrue h => exact ha h
  case isFalse h => exact hb h

/-- A command that has no effect where its event cannot occur (log 2). -/
theorem soundOutcome_guard {s t : State} {p : Prop} {_ : Decidable p} (h : ¬p → Sound s t) :
    SoundOutcome s (if p then .next s else .next t) :=
  soundOutcome_ite (fun _ => soundOutcome_next (Sound.refl s)) (fun hp => soundOutcome_next (h hp))

theorem sound_levels (v : InputLevels) (s : State) : Sound s { s with levels := v } :=
  Alike.sound (by simp [Alike])

theorem sound_statusPoll (p : Poll) (s : State) : SoundOutcome s (execStatusPoll p s) := by
  unfold execStatusPoll
  dsimp only
  split
  · exact soundOutcome_next (sound_beginTransaction _ s)
  · refine soundOutcome_ite (fun _ => soundOutcome_next ?_) (fun _ => soundOutcome_next (Sound.refl s))
    exact (sound_completeOperation (by simp) _ _).trans (sound_portFlag rfl rfl rfl rfl)
  · exact soundOutcome_next (sound_endTransaction _ _ s)
  · exact soundOutcome_next (Sound.refl s)
  · exact soundOutcome_next (Sound.refl s)

theorem sound_fetch (l : Link) (m : Transaction) (s : State) : SoundOutcome s (execFetch l m s) := by
  unfold execFetch
  split
  · exact soundOutcome_next (sound_beginTransaction l s)
  · refine soundOutcome_ite (fun _ => soundOutcome_next ?_) (fun _ => soundOutcome_next (Sound.refl s))
    exact sound_completeOperation (by simp) _ _
  · refine soundOutcome_next ((sound_endTransaction _ _ s).trans (sound_onLink (.inl ?_) (fun r hr => ?_) rfl id))
    · dsimp only
      split
      · simp
      · exact Nat.le_refl _
    · simp [endTransaction, onLink] at hr
  · exact soundOutcome_next (Sound.refl s)
  · exact soundOutcome_next (Sound.refl s)

theorem sound_requestFrame (l : Link) (m : Transaction) (s : State) : SoundOutcome s (execRequestFrame l m s) := by
  unfold execRequestFrame
  split
  · exact soundOutcome_next (sound_beginTransaction l s)
  · split
    · exact soundOutcome_next ((sound_completeOperation (by simp) _ _).trans (sound_acceptFrame _ _ _))
    · exact soundOutcome_next (sound_completeOperation (by simp) _ _)
    all_goals exact soundOutcome_next (Sound.refl s)
  · exact soundOutcome_next (sound_endTransaction _ _ s)
  · exact soundOutcome_next (Sound.refl s)
  · exact soundOutcome_next (Sound.refl s)

theorem sound_truncated (l : Link) (bytes : List Byte) (s : State) : SoundOutcome s (execTruncated l bytes s) := by
  unfold execTruncated
  split
  · split
    · exact soundOutcome_next ((sound_cutTransaction _ _ _ s).trans (sound_recordFault _ _ _ _))
    · exact soundOutcome_next ((sound_cutTransaction _ _ _ s).trans (sound_recordFault _ _ _ _))
    all_goals exact soundOutcome_next (Sound.refl s)
  · exact soundOutcome_next (Sound.refl s)

theorem sound_feedEncoderChange (a b : Bool) (s : State) : SoundOutcome s (execFeedEncoderChange a b s) := by
  refine soundOutcome_ite (fun _ => soundOutcome_next (Sound.refl s)) (fun _ => ?_)
  dsimp only
  split
  · exact soundOutcome_next (sound_levels _ s)
  · exact soundOutcome_next ((sound_levels _ s).trans (sound_feedTick _ _))

theorem sound_markTrailingEdge (s : State) : SoundOutcome s (execMarkTrailingEdge s) := by
  refine soundOutcome_ite (fun _ => soundOutcome_next (Sound.refl s)) (fun _ => ?_)
  dsimp only
  have closed : Sound s
      { s with levels := { s.levels with mark := false }, marks := { s.marks with measurement := none } } :=
    (sound_levels { s.levels with mark := false } s).trans (sound_marks (Nat.le_refl _) (.inl rfl))
  split
  · exact soundOutcome_next closed
  · exact soundOutcome_next ((closed.trans (sound_judgeMark _ _)).trans (sound_judgeMisses _))

theorem sound_markLeadingEdge (s : State) : SoundOutcome s (execMarkLeadingEdge s) :=
  soundOutcome_guard fun _ =>
    (sound_levels { s.levels with mark := true } s).trans (sound_marks (Nat.le_refl _) (.inl rfl))

theorem sound_plannerBeginCopy (s : State) : SoundOutcome s (execPlannerBeginCopy s) := by
  refine soundOutcome_ite (fun _ => soundOutcome_next (Sound.refl s)) (fun _ => ?_)
  split
  · rename_i hb
    exact soundOutcome_next (sound_beginCopy hb)
  · exact soundOutcome_next (Sound.refl s)

/-- Where the planner may take a piece, the plan has room (R44). -/
theorem planRoom_of_plannerPiece {s : State} {c : Context} {p : PlanningState} {i : Piece}
    (h : plannerPiece s = some (c, p, i)) : s.plan.length < 128 :=
  ((plannerPiece_iff s c p i).mp h).1.1

theorem sound_plannerAppendExpectation (s : State) : SoundOutcome s (execPlannerAppendExpectation s) := by
  refine soundOutcome_ite (fun _ => soundOutcome_next (Sound.refl s)) (fun _ => ?_)
  split
  · rename_i hp
    exact soundOutcome_next (sound_appendExpectation hp)
  · exact soundOutcome_next (Sound.refl s)

theorem sound_plannerAppendFold (s : State) : SoundOutcome s (execPlannerAppendFold s) := by
  refine soundOutcome_ite (fun _ => soundOutcome_next (Sound.refl s)) (fun _ => ?_)
  split
  · rename_i hp
    exact soundOutcome_next (sound_appendFold _ _ _ (planRoom_of_plannerPiece hp))
  · exact soundOutcome_next (Sound.refl s)

theorem sound_plannerAppendFlat (s : State) : SoundOutcome s (execPlannerAppendFlat s) := by
  refine soundOutcome_ite (fun _ => soundOutcome_next (Sound.refl s)) (fun _ => ?_)
  split
  · rename_i hp
    exact soundOutcome_next (sound_appendFlat _ _ _ (planRoom_of_plannerPiece hp))
  · exact soundOutcome_next (Sound.refl s)

theorem sound_plannerAppendPanelEnd (s : State) : SoundOutcome s (execPlannerAppendPanelEnd s) := by
  refine soundOutcome_ite (fun _ => soundOutcome_next (Sound.refl s)) (fun _ => ?_)
  split
  · rename_i hp
    exact soundOutcome_next (sound_appendPanelEnd _ (planRoom_of_plannerPiece hp))
  · exact soundOutcome_next (Sound.refl s)

theorem sound_openingGapEnd (s : State) : SoundOutcome s (execOpeningGapEnd s) := by
  refine soundOutcome_guard fun hd => sound_head fun _ ⟨_, clamp, inCycle, _, safe⟩ => ?_
  simp only [Bool.or_eq_true, not_or, Bool.not_eq_true, Bool.not_eq_false', openingGapDue] at hd
  split at hd
  · rename_i hc
    simp only [hc, reduceCtorEq, imp_false, false_and] at clamp safe
    exact ⟨rfl, by simp [clamp], by simpa [hc, BladeCycle.isIdle] using inCycle, by simp, by simp [safe]⟩
  · exact absurd hd.2 (by simp)

theorem sound_dwellEnd (s : State) : SoundOutcome s (execDwellEnd s) := by
  refine soundOutcome_guard fun hd => sound_head fun _ ⟨_, clamp, inCycle, _, safe⟩ => ?_
  simp only [Bool.or_eq_true, not_or, Bool.not_eq_true, Bool.not_eq_false', dwellDue] at hd
  split at hd
  · rename_i hc
    simp only [hc, reduceCtorEq, imp_false, false_and] at clamp safe
    exact ⟨rfl, by simp [clamp], by simpa [hc, BladeCycle.isIdle] using inCycle, by simp, by simp [safe]⟩
  · exact absurd hd.2 (by simp)

theorem sound_closingGapEnd (s : State) : SoundOutcome s (execClosingGapEnd s) := by
  refine soundOutcome_guard fun hd => sound_endClosingGap ?_
  simp only [Bool.or_eq_true, not_or, Bool.not_eq_true, Bool.not_eq_false', closingGapDue] at hd
  split at hd
  · exact ⟨_, ‹_›⟩
  · exact absurd hd.2 (by simp)

theorem sound_probeRisingEdge (p : ZoneId) (s : State) : SoundOutcome s (execProbeRisingEdge p s) := by
  refine soundOutcome_ite (fun _ => soundOutcome_next (Sound.refl s)) (fun _ => ?_)
  dsimp only
  split
  · exact soundOutcome_next ((sound_levels _ s).trans (sound_onProbe id))
  · exact soundOutcome_next (((sound_levels _ s).trans (sound_onProbe fun _ => rfl)).trans (sound_judgeHot _ _))

theorem sound_probeStalenessExpiry (p : ZoneId) (s : State) : SoundOutcome s (execProbeStalenessExpiry p s) := by
  refine soundOutcome_ite (fun _ => soundOutcome_next (Sound.refl s)) (fun _ => ?_)
  refine soundOutcome_ite (fun h => soundOutcome_next (sound_onProbe fun hn => ?_)) (fun _ => soundOutcome_next ?_)
  · rw [h] at hn
    cases hn
  · exact (sound_probeLost p s).trans (sound_raise _ _)

theorem sound_revolutionPulse (i : Side) (s : State) : SoundOutcome s (execRevolutionPulse i s) :=
  soundOutcome_ite (fun _ => soundOutcome_next (Sound.refl s)) fun _ =>
    soundOutcome_ite (fun _ => soundOutcome_next ((sound_levels _ s).trans (sound_runningPulse _)))
      (fun _ => soundOutcome_next (sound_levels _ s))

theorem sound_lastChange (time : LineTime) (s : State) :
    Sound s { s with run := { s.run with lastChange := time } } :=
  { Sound.refl s with }

theorem sound_resetEnd (v : InputLevels) (s : State) : SoundOutcome s (execHardResetEnd v s) :=
  soundOutcome_ite
    (fun _ => soundOutcome_next
      (((sound_afterReset s.lineTime v s.slots .pin s).trans (sound_lastChange _ _)).trans (sound_sampleSafe _)))
    (fun _ => soundOutcome_next (Sound.refl s))

theorem sound_resetMark (b : Bool) (r : ResetCause) (s : State) : Sound s { s with inReset := b, resetCause := r } :=
  Alike.sound (by simp [Alike])

theorem sound_hardReset (s : State) : SoundOutcome s (execHardReset s) :=
  soundOutcome_guard fun _ => ((sound_afterReset _ _ _ _ s).trans (sound_holdZones _)).trans (sound_resetMark _ _ _)

/-- Every command ends in a next state, sound after the one it was taken in. -/
theorem exec_sound (c : Instr) (s : State) : SoundOutcome s (exec c s) := by
  cases c with
  | powerOnReset v => exact soundOutcome_next ((sound_afterReset _ _ _ _ s).trans (sound_sampleSafe _))
  | hardReset => exact sound_hardReset s
  | hardResetEnd v => exact sound_resetEnd v s
  | feedEncoderChange a b => exact sound_feedEncoderChange a b s
  | speedGateEnd => exact soundOutcome_guard fun _ => Sound.trans (t := { s with feed := _ }) (Alike.sound (by simp [Alike])) (sound_judgeSpeed _)
  | feedStandstillExpiry => exact soundOutcome_guard fun _ => Alike.sound (by simp [Alike])
  | carrierTick =>
    exact soundOutcome_guard fun _ => (sound_levels { s.levels with carr := true } s).trans (sound_carrierTickEvent _)
  | carrierStandstillExpiry => exact soundOutcome_guard fun _ => Alike.sound (by simp [Alike])
  | markLeadingEdge => exact sound_markLeadingEdge s
  | markTrailingEdge => exact sound_markTrailingEdge s
  | plannerBeginCopy => exact sound_plannerBeginCopy s
  | plannerAppendExpectation => exact sound_plannerAppendExpectation s
  | plannerAppendFold => exact sound_plannerAppendFold s
  | plannerAppendFlat => exact sound_plannerAppendFlat s
  | plannerAppendPanelEnd => exact sound_plannerAppendPanelEnd s
  | openingGapEnd => exact sound_openingGapEnd s
  | dwellEnd => exact sound_dwellEnd s
  | closingGapEnd => exact sound_closingGapEnd s
  | clampGapExpiry => exact soundOutcome_guard fun _ => sound_settleClamp s
  | safeStopAssertion => exact soundOutcome_guard fun _ => (sound_levels _ s).trans (sound_assertSafe _)
  | safeStopNegation => exact soundOutcome_guard fun _ => sound_levels _ s
  | cutDwellEnd => exact soundOutcome_guard fun _ => Alike.sound (by simp [Alike])
  | probeRisingEdge p => exact sound_probeRisingEdge p s
  | probeStalenessExpiry p => exact sound_probeStalenessExpiry p s
  | valvePeriodStart z => exact soundOutcome_guard fun _ => sound_periodBegin z s
  | supplyEnd z => exact soundOutcome_guard fun _ => sound_onZone_less fun h => by cases h
  | pauseEnd z => exact soundOutcome_guard fun _ => sound_onZone_less fun h => absurd h (endPause_phase_ne_supply _)
  | ventEnd z => exact soundOutcome_guard fun _ => sound_onZone_less fun h => by cases h
  | doseTick => exact soundOutcome_guard fun _ => doseEvent_sound s
  | revolutionPulse i => exact sound_revolutionPulse i s
  | intervalOverflow => exact soundOutcome_guard fun _ => sound_overflowInterval s
  | pasteDwellExpiry => exact soundOutcome_guard fun _ => (sound_pasteEnd s).trans (sound_completeCheck _)
  | knifeDwellExpiry => exact soundOutcome_guard fun _ => (sound_knifeEnd s).trans (sound_completeCheck _)
  | statusPoll p => exact sound_statusPoll p s
  | fetch l m => exact sound_fetch l m s
  | requestFrame l m => exact sound_requestFrame l m s
  | truncated l bytes => exact sound_truncated l bytes s
  | run => exact soundOutcome_next (sound_takeRequest_of_rule replySound_run s)
  | drain => exact soundOutcome_next (sound_takeRequest_of_rule replySound_drain s)
  | stop => exact soundOutcome_next (sound_takeRequest_of_rule replySound_stop s)
  | halt => exact soundOutcome_next (sound_takeRequest_of_rule replySound_halt s)
  | resume => exact soundOutcome_next (sound_takeRequest_of_rule replySound_resume s)
  | clearLine => exact soundOutcome_next (sound_takeRequest_of_rule replySound_clearLine s)
  | setTracking => exact soundOutcome_next (sound_takeRequest_of_rule replySound_setTracking s)
  | setHead => exact soundOutcome_next (sound_takeRequest_of_rule replySound_setHead s)
  | setCalibration => exact soundOutcome_next (sound_takeRequest_of_rule replySound_setCalibration s)
  | setHeat => exact soundOutcome_next (sound_takeRequest_of_rule replySound_setHeat s)
  | setZoneDuty => exact soundOutcome_next (sound_takeRequest_of_rule replySound_setZoneDuty s)
  | setLinks => exact soundOutcome_next (sound_takeRequest s fun _ _ h => replySound_setLinks h)
  | openPattern => exact soundOutcome_next (sound_takeRequest_of_rule replySound_openPattern s)
  | addSteps => exact soundOutcome_next (sound_takeRequest_of_rule replySound_addSteps s)
  | closePattern => exact soundOutcome_next (sound_takeRequest_of_rule replySound_closePattern s)
  | discardPattern => exact soundOutcome_next (sound_takeRequest_of_rule replySound_discardPattern s)
  | queuePanel => exact soundOutcome_next (sound_takeRequest_of_rule replySound_queuePanel s)
  | cancelPanel => exact soundOutcome_next (sound_takeRequest_of_rule replySound_cancelPanel s)
  | loadRoll => exact soundOutcome_next (sound_takeRequest_of_rule replySound_loadRoll s)
  | rollReady => exact soundOutcome_next (sound_takeRequest_of_rule replySound_rollReady s)
  | rollWithdraw => exact soundOutcome_next (sound_takeRequest_of_rule replySound_rollWithdraw s)
  | rollAssign => exact soundOutcome_next (sound_takeRequest_of_rule replySound_rollAssign s)
  | spliceNow => exact soundOutcome_next (sound_takeRequest_of_rule replySound_spliceNow s)
  | setUnwind => exact soundOutcome_next (sound_takeRequest_of_rule replySound_setUnwind s)
  | takeReport => exact soundOutcome_next (sound_takeRequest_of_rule replySound_takeReport s)
  | readTracking => exact soundOutcome_next (sound_takeRequest_of_rule (replySound_of_reads reads_tracking) s)
  | readPattern => exact soundOutcome_next (sound_takeRequest_of_rule (replySound_of_reads reads_pattern) s)
  | readQueue => exact soundOutcome_next (sound_takeRequest_of_rule (replySound_of_reads reads_queue) s)
  | readPlan => exact soundOutcome_next (sound_takeRequest_of_rule (replySound_of_reads reads_plan) s)
  | readMarks => exact soundOutcome_next (sound_takeRequest_of_rule (replySound_of_reads reads_marks) s)
  | readHead => exact soundOutcome_next (sound_takeRequest_of_rule (replySound_of_reads reads_head) s)
  | readRun => exact soundOutcome_next (sound_takeRequest_of_rule (replySound_of_reads reads_run) s)
  | readMap => exact soundOutcome_next (sound_takeRequest_of_rule (replySound_of_reads reads_map) s)
  | readHeat => exact soundOutcome_next (sound_takeRequest_of_rule (replySound_of_reads reads_heat) s)
  | readUnwind => exact soundOutcome_next (sound_takeRequest_of_rule (replySound_of_reads reads_unwind) s)
  | readStatus => exact soundOutcome_next (sound_takeRequest_of_rule (replySound_of_reads reads_status) s)
  | readFault => exact soundOutcome_next (sound_takeRequest_of_rule replySound_readFault s)
  | readTime => exact soundOutcome_next (sound_takeRequest_of_rule (replySound_of_reads reads_time) s)
  | subscribe => exact soundOutcome_next (sound_takeRequest_of_rule replySound_subscribe s)
  | takeNotice => exact soundOutcome_next (sound_takeRequest_of_rule replySound_takeNotice s)
  | unassignedRequestCode => exact soundOutcome_next (sound_takeUnassigned s)
  | linkSelectNegated l => exact soundOutcome_guard fun _ => sound_portFlag rfl rfl rfl rfl

/-! ## Every step -/

/-- The invariants do not see the queue of waiting commands nor the count of free choices. -/
theorem Sound.of_own {s t : State} {w : List Instr} {n : Nat} (h : Sound { s with pending := w, choices := n } t) :
    Sound s { t with pending := s.pending } :=
  ⟨h.halt, h.head, h.splice, h.roll, h.valve, h.room, h.credit, h.fetch, h.wait, h.counter, h.plan, h.factor, h.notice, rfl⟩

/-- Every step is sound but for the queue of waiting commands, from which it takes the front. -/
theorem step_sound {s t : State} (h : step s = .next t) : Sound s { t with pending := s.pending } := by
  have taken : ∀ (c : Instr) (w : List Instr) (n : Nat), exec c { s with pending := w, choices := n } = .next t →
      Sound s { t with pending := s.pending } := fun c w n hc => by
    obtain ⟨u, hu, hs⟩ := exec_sound c { s with pending := w, choices := n }
    rw [hu] at hc
    cases hc
    exact hs.of_own
  unfold step at h
  split at h
  · exact taken _ _ s.choices h
  · rename_i hp
    split at h
    · rename_i e u ho
      unfold ownEvent at ho
      split at ho
      · cases ho
      · cases ho
        exact taken _ s.pending s.choices h
      · cases ho
        exact taken _ s.pending _ h
    · cases h
      exact Alike.sound (by simp [Alike])

/-! ## The obligations -/

/-- Settles O51: both invariants are parts of what every step keeps. -/
theorem headStaysSafe : Obligations.HeadStaysSafe := fun _ _ halt head h =>
  ⟨(step_sound h).halt halt, (step_sound h).head halt head⟩

/-- Settles O52: both invariants are parts of what every step keeps. -/
theorem spliceStaysSafe : Obligations.SpliceStaysSafe := fun _ _ halt splice roll h =>
  ⟨(step_sound h).splice halt splice, (step_sound h).roll roll⟩

/-- Settles O53: a zone forced closed supplies nothing, and a period begins with supply only where R140 lets it. -/
theorem valvesStaySafe : Obligations.ValvesStaySafe := fun _ _ valve h => (step_sound h).valve valve

/-- Settles O54: each queue grows only where its own check finds room, and the response of a grant takes the credit of its
request. -/
theorem queuesStayBounded : Obligations.QueuesStayBounded :=
  ⟨fun _ _ room h => (step_sound h).room room, fun _ _ credit h => (step_sound h).credit credit,
    fun _ _ fetch h => (step_sound h).fetch fetch⟩

/-- Settles O55: a grant keeps the bounds of the counts (`waitInv_grant`), and under a limit of at most 15 they are at most 17. -/
theorem noLinkStarves : Obligations.NoLinkStarves := by
  refine ⟨fun _ _ wait h => (step_sound h).wait wait, fun s l ⟨_, high, _, line, unwind, pattern, _⟩ => ?_⟩
  cases l <;> simp only [PerLink.get] <;> omega

/-- Settles O56: a segment opened is counted started, and one that leaves is counted reported, dropped or cleared. -/
theorem panelsAreAccounted : Obligations.PanelsAreAccounted := fun _ _ counter h => (step_sound h).counter counter

/-- Settles O58: an entry is placed beyond the last appended one, and a shift that fits moves all alike. -/
theorem planStaysOrdered : Obligations.PlanStaysOrdered := fun _ _ plan h => (step_sound h).plan plan

/-- Settles O59: an accept takes a factor only in its range, and a code is put in its rank where the link subscribes to it. -/
theorem factorAndNoticesKept : Obligations.FactorAndNoticesKept :=
  ⟨fun _ _ factor h => (step_sound h).factor factor, fun _ _ notice h => (step_sound h).notice notice⟩

/-- Settles O3: no command ends in a fault or a refusal of the model, and none touches the queue. -/
theorem commandLeavesQueue : Obligations.CommandLeavesQueue := fun c s =>
  have ⟨t, ht, hs⟩ := exec_sound c s
  ⟨t, ht, hs.pending⟩

/-- Settles O60: State.reset is a reset's values over sixteen EMPTY slots, which nothing names. -/
theorem invariantsAtReset : Obligations.InvariantsAtReset := by
  obtain ⟨halt, head, splice, roll, valve, room, credit, fetch, wait, counter, plan, factor, notice⟩ :=
    invariants_afterReset 0 InputLevels.quiet (Vector.replicate 16 Slot.empty) .power
  have empty : ∀ i : Fin 16, State.reset.slots[i] = Slot.empty := fun i => by simp [State.reset, State.afterReset]
  refine ⟨halt, head, splice, roll, valve, room, credit, fetch, wait, counter, fun i => ?_, ⟨?_, fun i => ?_⟩, plan, factor,
    notice⟩
  · rw [empty i]
    exact ⟨rfl, by decide⟩
  · exact (by decide : (0 : Nat) ≤ 1024)
  · rw [empty i]
    exact Nat.zero_le _

end Sys2Proof.Machine

/-!
The reference counts (O57). A hard reset's end keeps the slots as they stand and empties the queue and the contexts, so from a state in
reset that still holds an order the counts and the namings part.
-/

namespace Sys2Proof.Machine

/-- A state in reset that holds an order for slot 0, READY with that one reference, and whose RESET_n is about to be negated. -/
def orderHeldInReset : State :=
  { State.reset with
    inReset := true
    slots := (Vector.replicate 16 Slot.empty).set 0 (.ready ⟨0, 0, 0, 0, 0, 0, 0, 0⟩ [] 1)
    orders := [⟨0, 0, 1, 0⟩]
    pending := [.hardResetEnd InputLevels.quiet] }

theorem referenceInv_orderHeldInReset : ReferenceInv orderHeldInReset := by
  unfold ReferenceInv namings
  decide

theorem poolInv_orderHeldInReset : PoolInv orderHeldInReset := by
  unfold PoolInv
  decide

/-- Refutes O57: the end of a hard reset leaves slot 0 its reference and the queue no entry that names it. -/
theorem not_referencesBalance : ¬ Obligations.ReferencesBalance := by
  intro h
  have hstep : step orderHeldInReset =
      .next ((State.afterReset 0 InputLevels.quiet orderHeldInReset.slots .pin).carryOver
        { orderHeldInReset with pending := [] }) := rfl
  obtain ⟨counts, -⟩ := h _ _ referenceInv_orderHeldInReset poolInv_orderHeldInReset hstep
  exact absurd (counts 0).1 (by decide)

end Sys2Proof.Machine

/-!
The step and the resets: which event a step takes (O1, O2), and the values at and after each reset (O5, O7, O8, O9).
-/

namespace Sys2Proof.Machine

/-! ## The step -/

/-- With no command waiting a step takes the part's own event. -/
theorem step_of_ownEvent {s t : State} {e : Instr} (h : s.pending = []) (ho : ownEvent s = some (e, t)) : step s = exec e t := by
  simp only [step, h, ho]

/-- With no command waiting and no event due a microsecond passes. -/
theorem step_of_quiet {s : State} (h : s.pending = []) (ho : ownEvent s = none) : step s = .next (tick s) := by
  simp only [step, h, ho]

/-- Settles O1: the first branch of the step. -/
theorem stepRunsFrontCommand : Obligations.StepRunsFrontCommand := by
  intro c rest s h
  rw [step, h]

/-- Several events due: the step takes one that the free choice picks from the list (log 5). -/
theorem ownEvent_of_several {s : State} {e f : Instr} {es : List Instr} (h : internalEvents s = e :: f :: es) :
    ∃ g ∈ internalEvents s, ownEvent s = some (g, { s with choices := s.choices + 1 }) := by
  have hlt : (Config.freeOrder s.choices).toNat % ((f :: es).length + 1) < (e :: f :: es).length := Nat.mod_lt _ (by simp)
  refine ⟨(e :: f :: es)[(Config.freeOrder s.choices).toNat % ((f :: es).length + 1)], ?_, ?_⟩
  · rw [h]
    exact List.getElem_mem hlt
  · rw [ownEvent, h]
    dsimp only
    rw [List.getElem?_eq_getElem hlt]
    rfl

/-- Settles O2: the list of the events due holds each of them once, so its length tells the three cases apart. -/
theorem idleStep : Obligations.IdleStep := by
  refine ⟨fun s h => ?_, mem_internalEvents⟩
  have due := mem_internalEvents s
  have once := nodup_internalEvents s
  have own : ∀ e, OwnEvent s e → e ∈ internalEvents s := fun e => (due e).mpr
  cases hl : internalEvents s with
  | nil =>
    have quiet : ∀ e, ¬OwnEvent s e := fun e he => by simpa [hl] using own e he
    refine ⟨fun _ => ?_, fun e he => absurd he (quiet e), fun e _ he => absurd he (quiet e)⟩
    exact step_of_quiet h (by rw [ownEvent, hl])
  | cons e es =>
    have he : OwnEvent s e := (due e).mp (by simp [hl])
    cases es with
    | nil =>
      have only : ∀ f, OwnEvent s f → f = e := fun f hf => by simpa [hl] using own f hf
      refine ⟨fun h => absurd he (h e), fun f hf _ => ?_, fun f g hf hg hne => absurd ((only f hf).trans (only g hg).symm) hne⟩
      rw [only f hf]
      exact step_of_ownEvent h (by rw [ownEvent, hl])
    | cons f rest =>
      have hf : OwnEvent s f := (due f).mp (by simp [hl])
      have hne : e ≠ f := by
        rw [hl] at once
        exact fun h => (List.nodup_cons.mp once).1 (by simp [h])
      refine ⟨fun h => absurd he (h e), fun d _ h => absurd ((h e he).trans (h f hf).symm) hne, fun _ _ _ _ _ => ?_⟩
      obtain ⟨g, hg, htaken⟩ := ownEvent_of_several hl
      exact ⟨g, (due g).mp hg, step_of_ownEvent h htaken⟩

/-! ## The values of the resets -/

theorem exec_hardResetEnd {s : State} (v : InputLevels) (h : s.inReset = true) :
    exec (.hardResetEnd v) s =
      .next
        (sampleSafe
          { (State.afterReset s.lineTime v s.slots .pin).carryOver s with
            run := ⟨.stopped, CauseSet.none, none, s.run.lastChange⟩ }) := by
  change execHardResetEnd v s = _
  rw [execHardResetEnd, if_pos h]
  rfl

/-- A state agrees with the hard-reset values where it agrees in the parts they speak of. -/
theorem hardResetValues_congr {t u : State} (h : HardResetValues t) (feed : u.feed = t.feed) (carrier : u.carrier = t.carrier)
    (tracking : u.tracking = t.tracking) (marks : u.marks = t.marks) (head : u.head = t.head) (heat : u.heat = t.heat)
    (unwind : u.unwind = t.unwind) (notices : u.notices = t.notices) : HardResetValues u := by
  rw [HardResetValues, feed, carrier, tracking, marks, head, heat, unwind, notices]
  exact h

/-- Holding a zone changes its phase alone. -/
theorem holdZones_zone (s : State) (z : ZoneId) :
    (holdZones s).heat.zones.get z = { s.heat.zones.get z with phase := .rest } := by
  cases z <;> rfl

/-- The hard-reset values say nothing of the zones' phases, so they hold with every zone held. -/
theorem hardResetValues_holdZones {s : State} (h : HardResetValues s) : HardResetValues (holdZones s) := by
  obtain ⟨trackers, settings, marks, head, heat, zones, probes, unwind, notices⟩ := h
  refine ⟨trackers, settings, marks, head, heat, fun z => ?_, probes, unwind, notices⟩
  rw [holdZones_zone]
  exact zones z

theorem afterReset_port (time : LineTime) (v : InputLevels) (slots : Vector Slot 16) (kind : ResetKind) (l : Link) :
    (State.afterReset time v slots kind).links.get l = LinkPort.fresh := by
  cases l <;> rfl

/-- Settles O5: the power-on values, which sampling a negated SAFE_STOP_n leaves. -/
theorem powerOnValues : Obligations.PowerOnValues := by
  intro v s hv
  refine ⟨_, exec_powerOnReset v s, ?_⟩
  rw [sampleSafe_of_negated hv]
  obtain ⟨-, -, -, ⟨-, -, -, -, -, -, -, -, -, -, -, -, -, -, -, -, table⟩, -, zones, probes, -, -⟩ :=
    afterReset_values 0 v (Vector.replicate 16 Slot.empty) .power
  and_intros <;> try rfl
  · intro z
    obtain ⟨-, -, limit, requested, applied, hot⟩ := zones z
    obtain ⟨-, lastEdge, lastPeriod, temp, range, stale⟩ := probes z
    exact ⟨requested, applied, hot, limit, stale, lastEdge, lastPeriod, temp, range⟩
  · intro l
    cases l <;> exact ⟨rfl, rfl, rfl, rfl⟩
  · exact fun z => (probes z).1
  · exact table

/-! ### The hard reset -/

/-- A request cannot be taken during a reset (R198). -/
theorem takeRequest_inReset {s : State} (h : s.inReset = true) (c : RequestCode) (rule : Link → List Byte → State → Reply) :
    takeRequest c rule s = s := by
  simp [takeRequest, h]

/-- No transaction is in progress during a reset (R198). -/
theorem transactionOf_inReset {s : State} (h : s.inReset = true) (l : Link) : transactionOf s l = none := by
  simp [transactionOf, transactionBarred, h]

theorem beginTransaction_inReset {s : State} (h : s.inReset = true) (l : Link) : beginTransaction l s = s := by
  simp [beginTransaction, transactionBarred, h]

/-- During a reset nothing but its end, or a power-on reset, changes anything (R198, log 2). -/
theorem exec_inReset {s : State} (h : s.inReset = true) (c : Instr) (hp : ∀ v, c ≠ .powerOnReset v)
    (he : ∀ v, c ≠ .hardResetEnd v) : exec c s = .next s := by
  cases c with
  | powerOnReset v => exact absurd rfl (hp v)
  | hardResetEnd v => exact absurd rfl (he v)
  | run | drain | stop | halt | resume | clearLine | setTracking | setHead | setCalibration | setHeat | setZoneDuty |
    setLinks | openPattern | addSteps | closePattern | discardPattern | queuePanel | cancelPanel | loadRoll | rollReady |
    rollWithdraw | rollAssign | spliceNow | setUnwind | takeReport | readTracking | readPattern | readQueue | readPlan |
    readMarks | readHead | readRun | readMap | readHeat | readUnwind | readStatus | readFault | readTime | subscribe |
    takeNotice =>
    exact congrArg Host.Outcome.next (takeRequest_inReset h _ _)
  | unassignedRequestCode => exact congrArg Host.Outcome.next (by simp [takeUnassigned, h])
  | statusPoll poll =>
    obtain ⟨l, moment⟩ := poll
    cases moment <;> simp [exec, execStatusPoll, transactionOf_inReset h, beginTransaction_inReset h]
  | fetch l moment => cases moment <;> simp [exec, execFetch, transactionOf_inReset h, beginTransaction_inReset h]
  | requestFrame l moment => cases moment <;> simp [exec, execRequestFrame, transactionOf_inReset h, beginTransaction_inReset h]
  | truncated l bytes => simp [exec, execTruncated, transactionOf_inReset h]
  | _ => exact if_pos (by simp [h])

/-- Settles O7: the hard-reset values with every zone held, and no event during the reset. -/
theorem hardResetHolds : Obligations.HardResetHolds := by
  refine ⟨fun s hs => ?_, fun c s h => exec_inReset h c⟩
  refine ⟨_, exec_hardReset hs, ?_⟩
  refine ⟨rfl, rfl, rfl, rfl, rfl, rfl, rfl, rfl, rfl, ?zones, rfl, rfl, rfl, rfl, rfl, rfl, rfl, rfl, rfl, rfl, rfl, ?links,
    rfl, rfl, ?values, rfl⟩
  case zones => exact fun z => by cases z <;> exact ⟨rfl, rfl⟩
  case links => exact fun l => by cases l <;> exact ⟨rfl, rfl, rfl⟩
  case values =>
    exact hardResetValues_congr (hardResetValues_holdZones (afterReset_values s.lineTime s.levels (s.slots.map Slot.hardReset) .pin))
      rfl rfl rfl rfl rfl rfl rfl rfl

/-- Settles O8: the values of the reset, which sampling a negated SAFE_STOP_n leaves. -/
theorem hardResetEnd : Obligations.HardResetEnd := by
  intro v s hs hv
  refine ⟨_, exec_hardResetEnd v hs, ?_⟩
  rw [sampleSafe_of_negated hv]
  refine ⟨rfl, rfl, rfl, rfl, rfl, rfl, rfl, rfl, ?zones, rfl, rfl, ?links, ?values, rfl⟩
  case zones => exact fun z => by cases z <;> exact ⟨rfl, rfl, rfl⟩
  case links => exact fun l => by cases l <;> rfl
  case values =>
    exact hardResetValues_congr (afterReset_values s.lineTime v s.slots .pin) rfl rfl rfl rfl rfl rfl rfl rfl

/-! ### SAFE_STOP_n at the end of a reset (R105) -/

/-- With no cause in the set and no splice in progress, an asserted SAFE_STOP_n is taken by the run control, the head and the heat. -/
theorem sampleSafe_of_asserted {s : State} (h : s.levels.safeStop = true) (hc : s.run.causes.safe = false)
    (hp : s.unwind.splice.inProgress = false) : sampleSafe s = safeTaken (raise .safeStop s) := by
  rw [sampleSafe, if_pos h, assertSafe, addSafe_of_new (by simpa using hc),
    safeUnwind_of_not_inProgress ((safeTaken_inProgress (by simpa using hc)).trans (by simpa using hp))]

/-- What R105 leaves of a STOPPED line with no cause in the set and no notice pending. -/
theorem safeSampled_values {s : State} (h : s.levels.safeStop = true) (hr : s.run.state = .stopped)
    (hc : s.run.causes = CauseSet.none) (hp : s.unwind.splice.inProgress = false) (hn : s.notices = NoticeBox.freshAll) :
    let t := sampleSafe s
    t.run.state = .halted ∧ t.run.causes = { CauseSet.none with safe := true } ∧ t.run.haltEntry = some (.safe, t.lineTime) ∧
      t.head.clamp = false ∧ t.notices.line.pendingSet = [.safeStop, .halted] ∧ t.notices.pattern.pendingSet = [.safeStop] ∧
      t.notices.unwind.pendingSet = [.safeStop] ∧ ∀ l : Link, attention t l = true := by
  have hsafe : s.run.causes.safe = false := by simp [hc, CauseSet.none]
  have run : safeRun (raise .safeStop s) = ⟨.halted, s.run.causes.add .safe, some (.safe, s.lineTime), s.lineTime⟩ :=
    if_neg (by simp [hr])
  have pending : ∀ l, ((raise .halted (raise .safeStop s)).notices.get l).pendingSet =
      if l = .line then [.safeStop, .halted] else [.safeStop] := fun l => by
    rw [raise_notices_get, raise_notices_get, hn]
    cases l <;> rfl
  rw [sampleSafe_of_asserted h hsafe hp, safeTaken_eq (by simpa using hsafe), run]
  refine ⟨rfl, congrArg (CauseSet.add · .safe) hc, rfl, rfl, pending .line, pending .pattern, pending .unwind, fun l => ?_⟩
  have hl : (((raise .halted (raise .safeStop s)).notices.get l).pendingSet).isEmpty = false := by
    rw [pending]
    cases l <;> rfl
  rw [attention, Bool.or_eq_true, Bool.not_eq_true', Bool.not_eq_true']
  exact .inr hl

/-- Settles O9: both resets end with SAFE_STOP_n sampled in a STOPPED line. -/
theorem safeSampledAtResetEnd : Obligations.SafeSampledAtResetEnd := by
  rintro v s c hv (rfl | ⟨rfl, hs⟩)
  · exact ⟨_, exec_powerOnReset v s, safeSampled_values hv rfl rfl rfl rfl⟩
  · exact ⟨_, exec_hardResetEnd v hs, safeSampled_values hv rfl rfl rfl rfl⟩

end Sys2Proof.Machine

/-!
The taking of a request, and the events and requests of the Heat Unit (O13, O36 to O39).
-/

namespace Sys2Proof.Machine

/-! ## The taking of a request -/

/-- A request whose rule refuses is refused with its code. -/
theorem taken_refused {c : RequestCode} {rule : Link → List Byte → State → Reply} {l : Link} {r : QueuedRequest} {s : State}
    {why : ResultCode} (h : Taking c l r s) (hr : rule l r.args (grant l s) = .refused why) :
    (.next (takeRequest c rule s) : Host.Outcome State Fault Refusal) = .next (refuse l r.code why (grant l s)) := by
  rw [takeRequest_of_taking c rule l r s h, hr]
  rfl

/-- A request whose rule grants is answered with its data. -/
theorem taken_granted {c : RequestCode} {rule : Link → List Byte → State → Reply} {l : Link} {r : QueuedRequest} {s t : State}
    {d : List Byte} (h : Taking c l r s) (hr : rule l r.args (grant l s) = .granted t d) :
    (.next (takeRequest c rule s) : Host.Outcome State Fault Refusal) = .next (respond l r.code .granted d t) := by
  rw [takeRequest_of_taking c rule l r s h, hr]
  rfl

theorem atRest_eq (s : State) : atRest s = !producing s := by
  unfold atRest producing
  cases s.run.state <;> rfl

@[simp] theorem producing_grant (l : Link) (s : State) : producing (grant l s) = producing s := by
  simp [producing]

/-! ## Standstill and CUT (R9, R12, R118) -/

/-- Settles O13: each flag's own guard holds, and the difference of two line times is taken modulo 2^48. -/
theorem timedFlagsEnd : Obligations.TimedFlagsEnd := by
  intro s hr
  refine ⟨fun hf hd => ?_, fun hf hd => ?_, fun c hc hd => ?_, fun now start => ?_⟩
  · exact if_neg (by simp [hr, feedStandstillDue, standstillReached, hf, hd])
  · exact if_neg (by simp [hr, carrierStandstillDue, standstillReached, hf, hd])
  · exact if_neg (by simp [hr, cutDue, hc, Timer.expired, hd])
  · rw [elapsed, BitVec.toNat_sub]
    omega

/-! ## Probes (R128 to R130) -/

/-- Round half up: the quotient is within half a unit of the value, a half rounded up. -/
theorem roundHalfUpInt_spec (a : Int) {b : Nat} (hb : 0 < b) :
    2 * b * roundHalfUpInt a b ≤ 2 * a + b ∧ 2 * a + b < 2 * b * (roundHalfUpInt a b + 1) := by
  have hpos : (0 : Int) < 2 * b := by omega
  have h := Int.mul_ediv_add_emod (2 * a + b) (2 * b)
  have hn := Int.emod_nonneg (2 * a + b) hpos.ne'
  have hl := Int.emod_lt_of_pos (2 * a + b) hpos
  unfold roundHalfUpInt
  constructor
  · linarith
  · rw [mul_add, mul_one]
    linarith

theorem supplyOut_closedAt (now : LineTime) (w : Zone) : (closedAt now w).supplyOut = false := by
  rw [Zone.supplyOut, beq_eq_false_iff_ne]
  exact closedAt_phase_ne_supply now w

/-- A rising edge with a measurement armed measures the period and has the zone judge its latch (R128). -/
theorem exec_probeRisingEdge_armed {p : ZoneId} {s : State} {e : LineTime} (hr : s.inReset = false)
    (he : (s.heat.probes.get p).lastEdge = some e) :
    exec (.probeRisingEdge p) s =
      .next (judgeHot p (onProbe p (fun q => q.measured (elapsed s.lineTime e) s.lineTime)
        { s with levels := probeLevelHigh s.levels p })) := by
  change execProbeRisingEdge p s = _
  simp [execProbeRisingEdge, hr, he]

/-- Settles O36: the conversion and the latch's judgement meet their relations; a forced close leaves no supply. -/
theorem probeEvents : Obligations.ProbeEvents := by
  intro p s hr
  refine ⟨fun hn => ?_, fun e he => ?_, fun e he hd => ⟨fun hs => ?_, fun hs => ?_⟩, supplyOut_closedAt _,
    fun a b => roundHalfUpInt_spec a⟩
  · change execProbeRisingEdge p s = _
    simp [execProbeRisingEdge, hr, hn, onProbe]
  · exact ⟨convertPeriod (s.heat.probes.get p).table.toList (elapsed s.lineTime e), _, converts_convertPeriod _ _,
      exec_probeRisingEdge_armed hr he, latchJudged_judgeHot p _⟩
  all_goals
    change execProbeStalenessExpiry p s = _
    rw [execProbeStalenessExpiry, if_neg (by simp [hr, stalenessDue, he, hd])]
  · exact if_pos hs
  · rw [if_neg (by simp [hs])]
    simp only [onZone, forceClose_eq]
    rfl

/-! ## The valve cycle (R139, R140) -/

theorem valveDue_of {phase : ValvePhase} {z : ZoneId} {s : State} {bound : Nat} (hp : (s.heat.zones.get z).phase = phase)
    (hb : (s.heat.zones.get z).boundary = bound) (hd : bound ≤ elapsed s.lineTime (s.heat.zones.get z).period.start) :
    valveDue phase z s = true := by
  simp [valveDue, Zone.reached, hp, hb, hd]

/-- Settles O37: each phase's boundary is the one its end waits for. -/
theorem valveCycle : Obligations.ValveCycle := by
  intro z s hr
  refine ⟨fun hp hd => ?_, fun hp hd => ?_, fun hp hd => ?_, fun hp hd => ?_⟩
  all_goals have due := valveDue_of hp (by rw [Zone.boundary, hp]) hd
  · change execValvePeriodStart z s = _
    rw [execValvePeriodStart, if_neg (by simp [hr, due])]
    have duty : appliedDuty z s = if (s.heat.probes.get z).stale = true ∨ (s.heat.zones.get z).hot = true ∨
        s.run.causes.safe = true ∨ (s.heat.zones.get z).bound ≤ (s.heat.zones.get z).first then 0
        else if s.carrier.standstill = true then min (s.heat.zones.get z).requested s.heat.cap
        else (s.heat.zones.get z).requested := by
      simp [appliedDuty, Zone.enabled, or_assoc]
    rw [onZone, duty]
    rfl
  · change execSupplyEnd z s = _
    exact if_neg (by simp [hr, due])
  · change execPauseEnd z s = _
    rw [execPauseEnd, if_neg (by simp [hr, due]), onZone, Zone.endPause]
    dsimp only
    split <;> rfl
  · change execVentEnd z s = _
    exact if_neg (by simp [hr, due])

/-! ## The dose (R144 to R147) -/

/-- The zone found is one whose span holds the distance, and none is found where none does (R133). -/
theorem zoneAt_spec (h : HeatUnit) (d : Nat) :
    (∀ z, zoneAt h d = some z → LiesIn h z d) ∧ (zoneAt h d = none → ∀ z, ¬LiesIn h z d) := by
  have lies : ∀ z, ((h.zones.get z).enabled && decide ((h.zones.get z).first ≤ d) && decide (d < (h.zones.get z).bound)) = true ↔
      LiesIn h z d := fun z => by
    simp only [Zone.enabled, Bool.and_eq_true, decide_eq_true_eq, LiesIn]
    omega
  refine ⟨fun z hz => (lies z).mp ?_, fun hn z hz => ?_⟩
  · exact List.find?_some (p := fun z => (h.zones.get z).enabled && decide ((h.zones.get z).first ≤ d) &&
      decide (d < (h.zones.get z).bound)) hz
  have hall := List.find?_eq_none.mp hn z (by cases z <;> simp)
  exact hall ((lies z).mpr hz)

/-- Where a single zone holds the distance it is the one found. -/
theorem zoneAt_of_only {h : HeatUnit} {d : Nat} {z : ZoneId} (hz : LiesIn h z d) (only : ∀ y, y ≠ z → ¬LiesIn h y d) :
    zoneAt h d = some z := by
  cases hf : zoneAt h d with
  | none => exact absurd hz ((zoneAt_spec h d).2 hf z)
  | some y =>
    by_cases hy : y = z
    · rw [hy]
    · exact absurd ((zoneAt_spec h d).1 y hf) (only y hy)

theorem zoneAt_of_none {h : HeatUnit} {d : Nat} (hn : ∀ z, ¬LiesIn h z d) : zoneAt h d = none := by
  cases hf : zoneAt h d with
  | none => rfl
  | some z => exact absurd ((zoneAt_spec h d).1 z hf) (hn z)

/-- OVER_SET joins the flags where it was not in them. -/
theorem flags_overSet (f : PanelFlags) (b : Bool) :
    { f with overSet := f.overSet || b } = if b = true ∧ f.overSet = false then f.add .overSet else f := by
  obtain ⟨_, _, _, _, _, overSet, _, _, _⟩ := f
  cases b <;> cases overSet <;> rfl

/-- The segment's part in a dose tick, where its distance lies in zone `z` alone (R145 to R147). -/
theorem doseSegment_in {h : HeatUnit} {carrier p : Nat} {g : Segment} {z : ZoneId} (hp : g.trailing = some p)
    (hz : zoneAt h (carrier - p) = some z) (hs : (h.probes.get z).stale = false) :
    let dose := min (g.dose + ((h.probes.get z).temp - g.baseTemp).toNat) 16777215
    (doseSegment h carrier g).1 =
      { g with
        dose := dose
        flags := { g.flags with overSet := g.flags.overSet || decide (g.dose ≤ g.doseMax ∧ g.doseMax < dose) } } := by
  intro dose
  have hdose : raisedDose g.dose (h.probes.get z).temp g.baseTemp = dose := rfl
  simp only [doseSegment, hp, hz, hs, hdose, flags_overSet, decide_eq_true_eq, and_assoc, Bool.false_eq_true, if_false]
  split <;> rfl

/-- OVER_SET is raised for a segment exactly where its flag is set by the tick (R146). -/
theorem doseSegment_raises (h : HeatUnit) (carrier : Nat) (g : Segment) :
    ((doseSegment h carrier g).2 = true ↔ g.flags.overSet = false ∧ (doseSegment h carrier g).1.flags.overSet = true) := by
  unfold doseSegment
  split
  · simp
  split
  · simp
  split
  · simp [PanelFlags.add]
  dsimp only
  split
  case isTrue hc => simp [hc, PanelFlags.add]
  case isFalse hc => simp

/-- The dose tick, the segments and the notices apart (R144). -/
theorem doseEvent_eq (s : State) :
    doseEvent s =
      { s with
        map := { s.map with segments := s.map.segments.map (fun g => (doseSegment s.heat s.carrier.position g).1) }
        heat := { s.heat with lastDose := s.lineTime }
        notices :=
          if ∃ g ∈ s.map.segments, (doseSegment s.heat s.carrier.position g).2 = true then (raise .overSet s).notices
          else s.notices } := by
  simp only [doseEvent, List.any_map, List.any_eq_true, Function.comp_apply, List.map_map]
  split <;> rfl

/-- Settles O38: the tick visits the segments one by one, each by its own distance. -/
theorem doseTick : Obligations.DoseTick := by
  intro s hr hd
  have taken : exec .doseTick s = .next (doseEvent s) := if_neg (by simp [hr, doseDue, hd])
  rw [taken, doseEvent_eq]
  have visited : ∀ {i g g'}, s.map.segments[i]? = some g →
      (s.map.segments.map (fun g => (doseSegment s.heat s.carrier.position g).1))[i]? = some g' →
      g' = (doseSegment s.heat s.carrier.position g).1 := fun {i g g'} hg hg' => by
    rw [List.getElem?_map, hg] at hg'
    exact (Option.some.inj hg').symm
  refine ⟨_, rfl, rfl, rfl, rfl, List.length_map _, ?_, ?_, ?_⟩
  · intro i g g' hg hg'
    rw [visited hg hg']
    refine ⟨fun ht => by simp [doseSegment, ht], fun p hp => ⟨fun hn => ?_, fun z hz only => ⟨fun hs => ?_, fun hs => ?_⟩⟩⟩
    · simp [doseSegment, hp, zoneAt_of_none hn]
    · simp [doseSegment, hp, zoneAt_of_only hz only, hs, PanelFlags.add]
    · exact doseSegment_in hp (zoneAt_of_only hz only) hs
  · rintro ⟨i, g, g', hg, hg', hold, hnew⟩
    rw [visited hg hg'] at hnew
    exact if_pos ⟨g, List.mem_of_getElem? hg, (doseSegment_raises _ _ g).mpr ⟨hold, hnew⟩⟩
  · intro same
    refine if_neg ?_
    rintro ⟨g, hg, hraised⟩
    obtain ⟨i, hi⟩ := List.getElem?_of_mem hg
    obtain ⟨hold, hnew⟩ := (doseSegment_raises _ _ g).mp hraised
    have := same i g _ hi (by rw [List.getElem?_map, hi]; rfl)
    rw [hold, hnew] at this
    cases this

end Sys2Proof.Machine

/-!
The requests of the Heat Unit (O39).
-/

namespace Sys2Proof.Machine

/-! ## The tables and settings a request carries -/

/-- The order of R132 along the points, said of every two of them. -/
theorem calibrated_iff (l : List CalPoint) :
    calibrated l = true ↔ l.Pairwise (fun p q => q.period < p.period ∧ p.temp < q.temp) := by
  have trans : IsTrans CalPoint (fun p q => q.period < p.period ∧ p.temp < q.temp) :=
    ⟨fun p q r h k => ⟨k.1.trans h.1, h.2.trans k.2⟩⟩
  rw [← List.isChain_iff_pairwise]
  induction l with
  | nil => simp [calibrated]
  | cons p rest ih =>
    cases rest with
    | nil => simp [calibrated]
    | cons q rest =>
      simp [calibrated, List.isChain_cons_cons, ih]

/-- The checks of a SET_CALIBRATION's table, point by point (R132). -/
theorem calValid_iff (f : Fin 8 → CalPoint) :
    calValid (Vector.ofFn f).toList = true ↔
      (∀ i, 1 ≤ (f i).period ∧ (f i).period ≤ 250000 ∧ -500 ≤ (f i).temp ∧ (f i).temp ≤ 3000) ∧
        ∀ i j : Fin 8, i < j → (f j).period < (f i).period ∧ (f i).temp < (f j).temp := by
  have points : (Vector.ofFn f).toList = List.ofFn f := by simp [vector8, List.ofFn_succ]
  rw [points, calValid, Bool.and_eq_true, calibrated_iff, List.pairwise_ofFn]
  simp only [List.all_eq_true, List.forall_mem_ofFn_iff, Bool.and_eq_true, inRange, decide_eq_true_eq, and_assoc]

/-- The numbers that name no zone. -/
theorem zoneOf_none {n : Nat} : zoneOf n = none ↔ n = 0 ∨ 4 < n := by
  unfold zoneOf
  constructor
  · intro h
    by_contra hn
    have : n = 1 ∨ n = 2 ∨ n = 3 ∨ n = 4 := by omega
    rcases this with rfl | rfl | rfl | rfl <;> simp at h
  · intro h
    rw [if_neg (by omega), if_neg (by omega), if_neg (by omega), if_neg (by omega)]

/-- The order of R134, said of every two zones. -/
theorem spansOrdered_iff (l : List ZoneSetting) :
    spansOrdered l = true ↔ l.Pairwise (fun z w => z.first < z.bound → w.first < w.bound → z.bound ≤ w.first) := by
  have order : ∀ a b c d : Nat, (!(decide (a < b) && decide (c < d)) || decide (b ≤ c)) = true ↔ (a < b → c < d → b ≤ c) := by
    intro a b c d
    simp only [Bool.or_eq_true, Bool.not_eq_true', Bool.and_eq_false_iff, decide_eq_true_eq, decide_eq_false_iff_not]
    tauto
  induction l with
  | nil => simp [spansOrdered]
  | cons z rest ih =>
    simp only [spansOrdered, List.pairwise_cons, Bool.and_eq_true, List.all_eq_true, order, ih]

/-- The checks of a SET_HEAT, zone by zone (R134). -/
theorem heatValid_iff (args : List Byte) (exitDistance : Nat) :
    heatValid args exitDistance = true ↔
      (500 ≤ field args 0 2 ∧ field args 0 2 ≤ 10000) ∧ (10 ≤ field args 2 2 ∧ field args 2 2 ≤ 500) ∧
        4 * field args 2 2 ≤ field args 0 2 ∧ field args 4 2 ≤ 1000 ∧ field args 6 2 ≤ 500 ∧
        (∀ i : Fin 4, 1 ≤ field args (8 + 8 * i.val) 3 ∧ field args (8 + 8 * i.val) 3 ≤ field args (11 + 8 * i.val) 3 ∧
          field args (11 + 8 * i.val) 3 ≤ exitDistance ∧ 0 ≤ tempField args (14 + 8 * i.val) ∧
          tempField args (14 + 8 * i.val) ≤ 3000) ∧
        ∀ i j : Fin 4, i < j → field args (8 + 8 * i.val) 3 < field args (11 + 8 * i.val) 3 →
          field args (8 + 8 * j.val) 3 < field args (11 + 8 * j.val) 3 →
          field args (11 + 8 * i.val) 3 ≤ field args (8 + 8 * j.val) 3 := by
  have zones : [(zoneSettingsOf args).z1, (zoneSettingsOf args).z2, (zoneSettingsOf args).z3, (zoneSettingsOf args).z4] =
      List.ofFn (fun i : Fin 4 =>
        (⟨field args (8 + 8 * i.val) 3, field args (11 + 8 * i.val) 3, tempField args (14 + 8 * i.val)⟩ : ZoneSetting)) := by
    simp [zoneSettingsOf, zoneSettingAt, List.ofFn_succ]
  simp only [heatValid, zones, Bool.and_eq_true, spansOrdered_iff, List.pairwise_ofFn, List.all_eq_true,
    List.forall_mem_ofFn_iff, ZoneSetting.valid, inRange, decide_eq_true_eq, Nat.zero_le, true_and, and_assoc]

/-! ## The hot latches judged anew -/

/-- A zone under a latch's judgement keeps its span, its limit and what is requested of it. -/
def SameSetting (w w' : Zone) : Prop :=
  w'.first = w.first ∧ w'.bound = w.bound ∧ w'.limit = w.limit ∧ w'.requested = w.requested

theorem sameSetting_forceClose (now : LineTime) (w : Zone) : SameSetting w (w.forceClose now) := by
  rw [forceClose_eq, closedAt]
  split <;> exact ⟨rfl, rfl, rfl, rfl⟩

/-- Judging a latch anew touches its own zone and the notices alone (R135). -/
theorem rejudge_eq (z : ZoneId) (s : State) :
    ∃ w n, SameSetting (s.heat.zones.get z) w ∧
      rejudge z s = { s with heat := { s.heat with zones := s.heat.zones.set z w }, notices := n } := by
  have stands : ∃ w n, SameSetting (s.heat.zones.get z) w ∧
      s = { s with heat := { s.heat with zones := s.heat.zones.set z w }, notices := n } :=
    ⟨s.heat.zones.get z, s.notices, ⟨rfl, rfl, rfl, rfl⟩, by cases z <;> rfl⟩
  unfold rejudge judgeHot
  split
  case isFalse => exact stands
  dsimp only
  split
  · split
    · exact stands
    · exact ⟨_, _, sameSetting_forceClose s.lineTime { s.heat.zones.get z with hot := true }, rfl⟩
  · split
    · exact ⟨{ s.heat.zones.get z with hot := false }, s.notices, ⟨rfl, rfl, rfl, rfl⟩, rfl⟩
    · exact stands

/-- A latch not judged, its probe stale (R135; log 17). -/
theorem rejudge_of_stale {z : ZoneId} {s : State} (h : (s.heat.probes.get z).stale = true) : rejudge z s = s :=
  if_neg (by simp [Probe.judgeable, h])

/-- A probe under a new table (R132). -/
theorem recalibrated_spec (q : Probe) (table : Vector CalPoint 8) :
    ((q.lastPeriod = none ∨ q.stale = true) → q.recalibrated table = { q with table := table }) ∧
      (∀ last, q.lastPeriod = some last → q.stale = false →
        q.recalibrated table =
          { q with table := table, temp := (convertPeriod table.toList last).1, range := (convertPeriod table.toList last).2 }) := by
  unfold Probe.recalibrated
  refine ⟨?_, fun last hl hs => by simp [hl, hs]⟩
  rintro (h | h)
  · rw [h]
  · cases q.lastPeriod <;> simp [h]

theorem recalibrated_lastPeriod (q : Probe) (table : Vector CalPoint 8) :
    (q.recalibrated table).lastPeriod = q.lastPeriod ∧ (q.recalibrated table).table = table := by
  unfold Probe.recalibrated
  (repeat' split) <;> exact ⟨rfl, rfl⟩

/-! ## The three requests -/

/-- What a SET_CALIBRATION that its checks pass leaves: the probe under the table, and its zone's latch judged anew (R132). -/
def calibrationTaken (p : ZoneId) (table : Vector CalPoint 8) (s : State) : State :=
  rejudge p (onProbe p (fun q => q.recalibrated table) s)

theorem ruleSetCalibration_granted {l : Link} {args : List Byte} {s : State} {p : ZoneId} (hr : producing s = false)
    (hz : zoneOf (field args 0 1) = some p) (hv : calValid (calTableOf args).toList = true) :
    ruleSetCalibration l args s = .granted (calibrationTaken p (calTableOf args) s) [] := by
  have judged : ((s.heat.probes.get p).recalibrated (calTableOf args)).judgeable = (s.heat.probes.get p).judgeable := by
    rw [Probe.judgeable, recalibrated_stale, (recalibrated_lastPeriod _ _).1]
    rfl
  rw [ruleSetCalibration, if_neg (by simp [atRest_eq, hr]), hz]
  dsimp only
  rw [if_neg (by simp [hv]), calibrationTaken, rejudge, onProbe, perZone_get_set, judged]

/-- SET_CALIBRATION (R132). -/
theorem setCalibration_taken {s : State} {l : Link} {r : QueuedRequest} (h : Taking .setCalibration l r s) :
    (producing s = true → exec .setCalibration s = .next (refuse l r.code .state (grant l s))) ∧
      (producing s = false → (zoneOf (field r.args 0 1) = none ∨ calValid (calTableOf r.args).toList = false) →
        exec .setCalibration s = .next (refuse l r.code .range (grant l s))) ∧
      ∀ p, producing s = false → zoneOf (field r.args 0 1) = some p → calValid (calTableOf r.args).toList = true →
        exec .setCalibration s = .next (respond l r.code .granted [] (calibrationTaken p (calTableOf r.args) (grant l s))) := by
  refine ⟨fun hp => taken_refused h (if_pos (by simp [atRest_eq, hp])), fun hp hv => taken_refused h ?_, fun p hp hz hv =>
    taken_granted h (ruleSetCalibration_granted (by simpa using hp) hz hv)⟩
  rw [ruleSetCalibration, if_neg (by simp [atRest_eq, hp])]
  cases hz : zoneOf (field r.args 0 1) with
  | none => rfl
  | some p =>
    rcases hv with hv | hv
    · simp [hz] at hv
    · exact if_pos (by simp [hv])

/-- The probe and the zones after a SET_CALIBRATION, and what of the state it touches (R132, R135). -/
theorem calibrationTaken_parts (p : ZoneId) (table : Vector CalPoint 8) (s : State) :
    let t := calibrationTaken p table s
    t = { s with heat := t.heat, notices := t.notices } ∧ t.heat.probes.get p = (s.heat.probes.get p).recalibrated table ∧
      (∀ q, q ≠ p → t.heat.probes.get q = s.heat.probes.get q ∧ t.heat.zones.get q = s.heat.zones.get q) ∧
      ((s.heat.probes.get p).stale = true → t.heat.zones = s.heat.zones) := by
  obtain ⟨w, n, -, eq⟩ := rejudge_eq p (onProbe p (fun q => q.recalibrated table) s)
  dsimp only
  refine ⟨?_, ?_, fun q hq => ?_, fun hs => ?_⟩
  · rw [calibrationTaken, eq]
    rfl
  · rw [calibrationTaken, eq]
    exact perZone_get_set _ _ _
  · rw [calibrationTaken, eq]
    exact ⟨perZone_get_set_other _ _ _ _ hq, perZone_get_set_other _ _ _ _ hq⟩
  · rw [calibrationTaken, rejudge_of_stale]
    · rfl
    · rw [onProbe, perZone_get_set, recalibrated_stale, hs]

/-- What a SET_HEAT that its checks pass leaves (R135). -/
def heatSettingsTaken (args : List Byte) (s : State) : State :=
  rejudge .z4 (rejudge .z3 (rejudge .z2 (rejudge .z1 (setHeatSettings args s))))

/-- SET_HEAT (R134). -/
theorem setHeat_taken {s : State} {l : Link} {r : QueuedRequest} (h : Taking .setHeat l r s) :
    (producing s = true → exec .setHeat s = .next (refuse l r.code .state (grant l s))) ∧
      (producing s = false → heatValid r.args s.tracking.exitDistance = false →
        exec .setHeat s = .next (refuse l r.code .range (grant l s))) ∧
      (producing s = false → heatValid r.args s.tracking.exitDistance = true →
        exec .setHeat s = .next (respond l r.code .granted [] (heatSettingsTaken r.args (grant l s)))) := by
  refine ⟨fun hp => taken_refused h (if_pos (by simp [atRest_eq, hp])), fun hp hv => taken_refused h ?_, fun hp hv =>
    taken_granted h ?_⟩
  all_goals rw [ruleSetHeat, if_neg (by simp [atRest_eq, hp])]
  · exact if_pos (by simp [hv])
  · exact if_neg (by simp [hv])

/-- The four judgements anew, one after another, touch the zones and the notices alone, and no zone's settings. -/
theorem heatSettingsTaken_eq (args : List Byte) (s : State) :
    ∃ zones notices, heatSettingsTaken args s =
        { setHeatSettings args s with heat := { (setHeatSettings args s).heat with zones := zones }, notices := notices } ∧
      ∀ z, SameSetting ((setHeatSettings args s).heat.zones.get z) (zones.get z) := by
  obtain ⟨w1, n1, same1, eq1⟩ := rejudge_eq .z1 (setHeatSettings args s)
  obtain ⟨w2, n2, same2, eq2⟩ := rejudge_eq .z2 (rejudge .z1 (setHeatSettings args s))
  obtain ⟨w3, n3, same3, eq3⟩ := rejudge_eq .z3 (rejudge .z2 (rejudge .z1 (setHeatSettings args s)))
  obtain ⟨w4, n4, same4, eq4⟩ := rejudge_eq .z4 (rejudge .z3 (rejudge .z2 (rejudge .z1 (setHeatSettings args s))))
  rw [heatSettingsTaken, eq4, eq3, eq2, eq1]
  rw [eq1] at same2
  rw [eq2, eq1] at same3
  rw [eq3, eq2, eq1] at same4
  refine ⟨_, _, rfl, fun z => ?_⟩
  cases z
  · exact same1
  · exact same2
  · exact same3
  · exact same4

/-- Settles O39: each request's checks as the statement has them, and what its rule leaves. -/
theorem heatSettings : Obligations.HeatSettings := by
  intro s l r
  refine ⟨fun h => ?_, fun h => ?_, fun h => ⟨fun hz => taken_refused h (by rw [ruleSetZoneDuty, hz]), fun z hz => ?_⟩⟩
  · obtain ⟨state, range, granted⟩ := setCalibration_taken h
    have valid := calValid_iff (fun i => ⟨field r.args (1 + 5 * i.val) 3, tempField r.args (4 + 5 * i.val)⟩)
    refine ⟨state, fun hp hbad => range hp ?_, fun p hp hz legal => ⟨_, granted p hp hz (valid.mpr legal), ?_⟩⟩
    · rcases hbad with hz | hz | hv
      · exact .inl (zoneOf_none.mpr (.inl hz))
      · exact .inl (zoneOf_none.mpr (.inr hz))
      · exact .inr (Bool.eq_false_iff.mpr fun hc => hv (valid.mp hc))
    · have heat : (grant l s).heat = s.heat := by simp
      obtain ⟨frame, probe, others, stale⟩ := calibrationTaken_parts p (calTableOf r.args) (grant l s)
      have judged := latchJudgedAnew_rejudge p (onProbe p (fun q => q.recalibrated (calTableOf r.args)) (grant l s))
      obtain ⟨keeps, converts⟩ := recalibrated_spec (s.heat.probes.get p) (calTableOf r.args)
      rw [heat] at probe others stale
      rw [onProbe, heat] at judged
      refine ⟨frame, fun i => ?_, ?_, others, fun hs => ⟨stale hs, ?_⟩, fun last hs hl => ?_, _, keeps, fun last hl hs =>
        ⟨_, converts_convertPeriod _ last, converts last hl hs⟩, judged⟩
      all_goals rw [probe]
      · rw [(recalibrated_lastPeriod _ _).2]
        simp [calTableOf]
      · exact recalibrated_stale _ _
      · rw [keeps (.inr hs)]
      · rw [converts last hl hs]
        exact converts_convertPeriod _ last
  · obtain ⟨state, range, granted⟩ := setHeat_taken h
    have valid := heatValid_iff r.args s.tracking.exitDistance
    refine ⟨state, fun hp hbad => range hp (Bool.eq_false_iff.mpr fun hc => hbad (valid.mp hc)), fun hp legal =>
      ⟨_, granted hp (valid.mpr legal), ?_⟩⟩
    obtain ⟨zones, notices, eq, same⟩ := heatSettingsTaken_eq r.args (grant l s)
    refine ⟨?frame, ?_, ?_, ?_, ?_, ?_, ?_, ?zones, _, _, _, latchJudgedAnew_rejudge .z1 (setHeatSettings r.args (grant l s)),
      latchJudgedAnew_rejudge .z2 _, latchJudgedAnew_rejudge .z3 _, latchJudgedAnew_rejudge .z4 _⟩
    case zones =>
      intro i z hz
      rw [eq]
      have numbered : ∀ j : Fin 4, zoneOf (j.val + 1) = some ([ZoneId.z1, .z2, .z3, .z4].get j) := by decide
      obtain rfl := Option.some.inj ((numbered i).symm.trans hz)
      match i with
      | 0 => exact same .z1
      | 1 => exact same .z2
      | 2 => exact same .z3
      | 3 => exact same .z4
    all_goals
      rw [eq]
      rfl
  · exact taken_granted h (by rw [ruleSetZoneDuty, hz]; simp [onZone])

end Sys2Proof.Machine

/-!
The events of the Unwind Unit: revolution pulses, the ends of the splice's pulses, and the fire, knife and seam positions
(O40 to O42).
-/

namespace Sys2Proof.Machine

/-! ## What the judgement of the reserves leaves alone -/

theorem trySearch_unwind (s : State) : (trySearch s).unwind = { s.unwind with splice := (trySearch s).unwind.splice } := by
  rw [trySearch_parts]

theorem addCause_unwind {c : Cause} (hc : c ≠ .safe) (s : State) :
    (addCause c s).unwind = { s.unwind with splice := (addCause c s).unwind.splice } := by
  rw [addCause_eq c s hc]
  unfold causeAdded
  (repeat' split) <;> rfl

/-- The change reserve leaves the state as it was, or makes the splice DUE (R159). -/
theorem judgeChange_cases (s : State) : judgeChange s = s ∨ judgeChange s = enterDue .reserve s := by
  unfold judgeChange
  split
  · split
    · exact .inr rfl
    · exact .inl rfl
  · exact .inl rfl

/-- The end reserve leaves the state as it was, or adds ROLL_OUT (R161). -/
theorem judgeEnd_cases (s : State) :
    judgeEnd s = s ∨
      judgeEnd s = addCause .rollOut { s with unwind := { s.unwind with splice := s.unwind.splice.backToDue } } := by
  unfold judgeEnd
  split
  · split
    · exact .inr rfl
    · exact .inl rfl
  · exact .inl rfl

theorem enterDue_unwind (d : SpliceReason) (s : State) :
    (enterDue d s).unwind = { s.unwind with splice := (enterDue d s).unwind.splice } := by
  unfold enterDue
  dsimp only
  split <;> exact trySearch_unwind _

/-- The judgement of both reserves touches the splice record alone of the unwind (R159, R161). -/
theorem judgeReserves_unwind (s : State) :
    (judgeReserves s).unwind = { s.unwind with splice := (judgeReserves s).unwind.splice } := by
  have change : ∀ s, (judgeChange s).unwind = { s.unwind with splice := (judgeChange s).unwind.splice } := fun s => by
    rcases judgeChange_cases s with h | h <;> rw [h]
    exact enterDue_unwind .reserve s
  have atEnd : ∀ s, (judgeEnd s).unwind = { s.unwind with splice := (judgeEnd s).unwind.splice } := fun s => by
    rcases judgeEnd_cases s with h | h <;> rw [h]
    rw [addCause_unwind (by decide)]
  rw [judgeReserves, atEnd, change]

/-- No pending notice is lost. -/
def PendingKept (s t : State) : Prop :=
  ∀ (l : Link) (n : Notice), n ∈ (s.notices.get l).pendingSet → n ∈ (t.notices.get l).pendingSet

theorem PendingKept.refl {s t : State} (h : t.notices = s.notices) : PendingKept s t := fun l n hn => by rwa [h]

theorem PendingKept.trans {s t u : State} (h : PendingKept s t) (k : PendingKept t u) : PendingKept s u :=
  fun l n hn => k l n (h l n hn)

theorem pendingKept_raise (n : Notice) (s : State) : PendingKept s (raise n s) := fun l m hm => by
  rw [raise_notices_get]
  exact (mem_deliver' n m _).mpr (.inl hm)

theorem pendingKept_trySearch (s : State) : PendingKept s (trySearch s) := by
  unfold trySearch
  (repeat' split) <;> first | exact .refl rfl | exact .trans (.refl rfl) (pendingKept_raise _ _)

theorem pendingKept_addCause {c : Cause} (hc : c ≠ .safe) (s : State) : PendingKept s (addCause c s) := by
  rw [addCause_eq c s hc]
  unfold causeAdded
  split
  · exact .refl rfl
  · split <;> exact pendingKept_raise .halted s

theorem pendingKept_judgeReserves (s : State) : PendingKept s (judgeReserves s) := by
  have due : ∀ s, PendingKept s (enterDue .reserve s) := fun s => by
    unfold enterDue
    dsimp only
    split
    · exact fun l n hn => pendingKept_trySearch _ l n hn
    · exact fun l n hn => pendingKept_trySearch _ l n (pendingKept_raise .rollLow s l n hn)
  have change : PendingKept s (judgeChange s) := by
    rcases judgeChange_cases s with h | h <;> rw [h]
    · exact .refl rfl
    · exact due s
  refine change.trans ?_
  rcases judgeEnd_cases (judgeChange s) with h | h <;> rw [judgeReserves, h]
  · exact .refl rfl
  · exact fun l n hn => pendingKept_addCause (by decide) _ l n hn

/-- A notice raised pends on a link that subscribes to its class (R192). -/
theorem mem_raise {n : Notice} {s : State} {l : Link} (h : (s.notices.get l).subscription.holds n = true) :
    n ∈ ((raise n s).notices.get l).pendingSet := by
  rw [raise_notices_get]
  exact (mem_deliver' n n _).mpr (.inr ⟨rfl, h⟩)

theorem judgeReserves_feedPosition (s : State) : (judgeReserves s).feed.position = s.feed.position := by
  rcases judgeEnd_cases (judgeChange s) with h | h <;> rw [judgeReserves, h]
  · simp
  · simp

/-! ## Revolution pulses (R156 to R158) -/

/-- Round half up of naturals: the quotient is within half a unit of the value, a half rounded up. -/
theorem roundHalfUp_spec (a : Nat) {b : Nat} (hb : 0 < b) :
    2 * b * roundHalfUp a b ≤ 2 * a + b ∧ 2 * a + b < 2 * b * (roundHalfUp a b + 1) :=
  ⟨Nat.mul_div_le _ _, Nat.lt_mul_div_succ _ (by omega)⟩

theorem exec_revolutionPulse_running {side : Side} {s : State} (hr : s.inReset = false) (h : runningSide s.unwind = some side) :
    exec (.revolutionPulse side) s = .next (runningPulse { s with levels := revHigh s.levels side }) := by
  change execRevolutionPulse side s = _
  simp [execRevolutionPulse, hr, h]

theorem runningRoll_of {u : UnwindUnit} {side : Side} {roll : RollRecord} (h : runningSide u = some side)
    (hr : u.rolls.get side = some roll) : runningRoll u = some roll := by
  simp [runningRoll, h, hr]

/-- A pulse of the running side that closes an interval not overdue: the running roll is judged by it, and where its diameter is
accepted, against the reserves (R157). -/
theorem runningPulse_closing {s : State} {side : Side} {i : RevInterval} {roll : RollRecord} (h : runningSide s.unwind = some side)
    (hi : s.unwind.interval = some i) (hn : i.n ≤ 4194303) (hroll : s.unwind.rolls.get side = some roll) :
    let t : State :=
      { s with
        unwind := { s.unwind with
          interval := some ⟨0, false⟩, rolls := s.unwind.rolls.set side (some (roll.judged i s.tracking.feedTick)) } }
    runningPulse s = if roll.accepts i s.tracking.feedTick then judgeReserves t else t := by
  have hmax : ¬maxInterval < i.n := by unfold maxInterval; omega
  simp only [runningPulse, hi, if_neg hmax, runningRoll_of h hroll, onRunning, h, hroll, Option.map_some]

/-- The overflow of the running roll's interval (R158). -/
theorem overflowInterval_eq {s : State} {side : Side} {roll : RollRecord} (h : runningSide s.unwind = some side)
    (hroll : s.unwind.rolls.get side = some roll) :
    let t : State :=
      { s with
        unwind := { s.unwind with interval := none, rolls := s.unwind.rolls.set side (some { roll with stale := true }) } }
    overflowInterval s = if roll.stale then t else raise .diameterStale t := by
  simp only [overflowInterval, onRunning, runningRoll_of h hroll, show runningSide { s.unwind with interval := none } = some side from h,
    hroll, Option.map_some]

/-- Settles O40: the running roll judged by the interval, in the cases of R157. -/
theorem revolutionPulses : Obligations.RevolutionPulses := by
  intro side s hr
  refine ⟨fun h => ?_, fun h hi => ?_, fun i roll h hi hn hroll => ?_, fun i roll h hi hn hroll => ?_, fun a b => roundHalfUp_spec a⟩
  · change execRevolutionPulse side s = _
    simp [execRevolutionPulse, hr, h]
  · rw [exec_revolutionPulse_running hr h, runningPulse]
    simp only [hi]
  · have pulse := runningPulse_closing (s := { s with levels := revHigh s.levels side }) h hi hn hroll
    refine ⟨fun hbad => ?_, fun hs hmin hout => ?_, fun hs hmin hcore hdiam => ?_⟩
    all_goals rw [exec_revolutionPulse_running hr h, pulse]
    · have invalid : i.valid = false := by
        rcases hbad with hbad | hbad <;> simp [RevInterval.valid, hbad]
      simp [RollRecord.accepts, RollRecord.judged, invalid]
    · have valid : i.valid = true := by simp [RevInterval.valid, hs, hmin]
      have outside : ¬(roll.core ≤ candidateDiameter i.n s.tracking.feedTick ∧
          candidateDiameter i.n s.tracking.feedTick ≤ roll.diameter) := by
        unfold candidateDiameter
        omega
      rw [if_neg (by simpa [RollRecord.accepts, valid] using outside), RollRecord.judged, if_pos valid]
      dsimp only
      rw [if_neg outside]
    · have valid : i.valid = true := by simp [RevInterval.valid, hs, hmin]
      have inside : roll.core ≤ candidateDiameter i.n s.tracking.feedTick ∧
          candidateDiameter i.n s.tracking.feedTick ≤ roll.diameter := ⟨hcore, hdiam⟩
      have accepted : roll.accepts i s.tracking.feedTick = true := by simp [RollRecord.accepts, valid, inside]
      dsimp only
      rw [if_pos accepted, RollRecord.judged, if_pos valid]
      dsimp only
      rw [if_pos inside]
      exact ⟨_, rfl, reservesJudged_judgeReserves _⟩
  · have taken : exec .intervalOverflow s = .next (overflowInterval s) :=
      if_neg (by simp [hr, overflowDue, hi, maxInterval, hn])
    rw [taken, overflowInterval_eq h hroll]
    cases hs : roll.stale
    · exact ⟨_, rfl, rfl, rfl, fun _ => rfl, by simp⟩
    · exact ⟨_, rfl, rfl, rfl, by simp, fun _ => rfl⟩

end Sys2Proof.Machine

/-!
The end of a splice's pulses, and the fire, knife and seam positions (O41, O42).
-/

namespace Sys2Proof.Machine

/-! ## The ends of the pulses (R165, R166) -/

theorem otherSide_ne (i : Side) : otherSide i ≠ i := by
  cases i <;> decide

/-- The record across from the new side at completion: a RUNNING one is SPENT (R166). -/
def rollReplaced (roll : Option RollRecord) : Option RollRecord :=
  roll.map (fun o => if o.phase = .running then { o with phase := .spent } else o)

theorem rollReplaced_eq (roll : Option RollRecord) :
    (if rollIs .running roll then setPhase .spent roll else roll) = rollReplaced roll := by
  cases roll with
  | none => rfl
  | some o =>
    by_cases h : o.phase = .running
    · simp [rollIs, setPhase, rollReplaced, h]
    · simp [rollIs, rollReplaced, h]

/-- The state in which the splice is complete, before the new roll is judged (R166). -/
def spliceCompleted (i : Side) (s : State) : State :=
  raise .spliceDone
    { s with
      unwind := { s.unwind with
        rolls := (s.unwind.rolls.set i ((s.unwind.rolls.get i).map RollRecord.tookOver)).set (otherSide i)
          (rollReplaced (s.unwind.rolls.get (otherSide i)))
        interval := none, splice := .idle } }

/-- With both pulses negated a CUTTING splice completes, and the new roll is judged (R166). -/
theorem completeCheck_done {s : State} {d : SpliceReason} {i : Side} {x f fa kn : Nat}
    (hs : s.unwind.splice = .cutting d i x f fa kn) (hp : s.unwind.paste = none) (hk : s.unwind.knife = none) :
    completeCheck s = judgeReserves (spliceCompleted i s) := by
  simp only [completeCheck, hs, hp, hk, Option.isNone_none, Bool.and_self, if_true, rollReplaced_eq, spliceCompleted]

/-- A pulse still asserted, or a splice not CUTTING, and nothing completes (R166). -/
theorem completeCheck_stands {s : State} (h : s.unwind.paste ≠ none ∨ s.unwind.knife ≠ none ∨
    ∀ d i x f fa kn, s.unwind.splice ≠ .cutting d i x f fa kn) : completeCheck s = s := by
  unfold completeCheck
  split
  · rename_i d i x f fa kn hs
    refine if_neg ?_
    rw [Bool.and_eq_true, Option.isNone_iff_eq_none, Option.isNone_iff_eq_none]
    rintro ⟨hp, hk⟩
    rcases h with h | h | h
    · exact h hp
    · exact h hk
    · exact h _ _ _ _ _ _ hs
  · rfl

/-- What the judgement of the new roll leaves of the completion (R166). -/
theorem spliceCompleted_judged {s : State} {i : Side} {roll : RollRecord} (hroll : s.unwind.rolls.get i = some roll) :
    let t := judgeReserves (spliceCompleted i s)
    t.unwind.paste = s.unwind.paste ∧ t.unwind.knife = s.unwind.knife ∧ t.unwind.interval = none ∧
      t.unwind.rolls.get i = some roll.tookOver ∧
      (∀ o, s.unwind.rolls.get (otherSide i) = some o → o.phase = .running →
        t.unwind.rolls.get (otherSide i) = some { o with phase := .spent }) ∧
      t.unwind.seam = s.unwind.seam ∧ t.feed.position = s.feed.position ∧ t.plan = s.plan ∧ t.links = s.links ∧
      (s.notices.unwind.subscription.roll = true → Notice.spliceDone ∈ t.notices.unwind.pendingSet) := by
  have unwind := judgeReserves_unwind (spliceCompleted i s)
  refine ⟨?_, ?_, ?_, ?_, fun o ho hrun => ?_, ?_, judgeReserves_feedPosition _, by simp [spliceCompleted],
    by simp [spliceCompleted], fun hsub => pendingKept_judgeReserves _ .unwind _ (mem_raise (l := .unwind) hsub)⟩
  all_goals rw [unwind]
  · rfl
  · rfl
  · rfl
  · change ((s.unwind.rolls.set i _).set (otherSide i) _).get i = _
    rw [perSide_get_set_other _ _ _ _ (otherSide_ne i).symm, perSide_get_set, hroll]
    rfl
  · change ((s.unwind.rolls.set i _).set (otherSide i) _).get (otherSide i) = _
    rw [perSide_get_set, rollReplaced, ho, Option.map_some, if_pos hrun]
  · rfl

theorem exec_pasteDwellExpiry {s : State} {side : Side} {p : Timer} (hr : s.inReset = false)
    (hp : s.unwind.paste = some (side, p)) (hd : p.dur ≤ elapsed s.lineTime p.start) :
    exec .pasteDwellExpiry s = .next (completeCheck { s with unwind := { s.unwind with paste := none } }) :=
  if_neg (by simp [hr, pasteDue, hp, Timer.expired, hd])

theorem exec_knifeDwellExpiry {s : State} {k : Timer} (hr : s.inReset = false) (hk : s.unwind.knife = some k)
    (hd : k.dur ≤ elapsed s.lineTime k.start) :
    exec .knifeDwellExpiry s = .next (completeCheck { s with unwind := { s.unwind with knife := none } }) :=
  if_neg (by simp [hr, knifeDue, hk, Timer.expired, hd])

/-- Settles O41: a pulse's end negates its output, and the second one completes the splice. -/
theorem splicePulsesEnd : Obligations.SplicePulsesEnd := by
  intro s hr
  refine ⟨fun side p hp hd hstill => ?_, fun k hk hd hstill => ?_, fun c d i x f fa kn roll hs hroll hc => ?_⟩
  · rw [exec_pasteDwellExpiry hr hp hd]
    exact congrArg Host.Outcome.next (completeCheck_stands (.inr hstill))
  · rw [exec_knifeDwellExpiry hr hk hd]
    exact congrArg Host.Outcome.next (completeCheck_stands (hstill.imp id .inr))
  · let w : State := { s with unwind := { s.unwind with paste := none, knife := none } }
    have taken : exec c s = .next (judgeReserves (spliceCompleted i w)) := by
      rw [← completeCheck_done (s := w) hs rfl rfl]
      rcases hc with ⟨rfl, hk, side, p, hp, hd⟩ | ⟨rfl, hp, k, hk, hd⟩
      · rw [exec_pasteDwellExpiry hr hp hd]
        simp only [w, hk]
      · rw [exec_knifeDwellExpiry hr hk hd]
        simp only [w, hp]
    obtain ⟨paste, knife, interval, new, old, seam, feed, plan, links, notices⟩ := spliceCompleted_judged (s := w) hroll
    have judged := reservesJudged_judgeReserves (spliceCompleted i w)
    generalize judgeReserves (spliceCompleted i w) = t at *
    rw [show spliceCompleted i w = _ by rw [spliceCompleted, show w.unwind.rolls.get i = some roll from hroll]] at judged
    exact ⟨_, taken, paste, knife, interval, new, old, seam, feed, plan, links, notices, judged⟩

/-! ## The fire, knife and seam positions (R163 to R165, R169) -/

theorem fireCheck_of_not_planned {s : State} (h : ∀ r i x f, s.unwind.splice ≠ .planned r i x f) : fireCheck s = s := by
  unfold fireCheck
  split
  · rename_i hs
    exact absurd hs (h _ _ _ _)
  · rfl

theorem fireCheck_of_ahead {s : State} {r : SpliceReason} {i : Side} {x f : Nat} (hs : s.unwind.splice = .planned r i x f)
    (hf : s.feed.position < f) : fireCheck s = s := by
  simp only [fireCheck, hs, if_neg (Nat.not_le.mpr hf)]

theorem knifeCheck_of_not_fired {s : State} (h : ∀ r i x f fa kn, s.unwind.splice ≠ .fired r i x f fa kn) :
    knifeCheck s = s := by
  unfold knifeCheck
  split
  · rename_i hs
    exact absurd hs (h _ _ _ _ _ _)
  · rfl

theorem seamCheck_of_none {s : State} (h : s.unwind.seam = none) : seamCheck s = s := by
  simp only [seamCheck, h]

theorem seamCheck_of_ahead {s : State} {p : Nat} (h : s.unwind.seam = some p) (hp : s.feed.position < p) : seamCheck s = s := by
  simp only [seamCheck, h, if_neg (Nat.not_le.mpr hp)]

/-- With none of its positions reached the Unwind Unit has nothing to do (R5). -/
theorem unwindEvent_of_not_reached {s : State} (h : unwindReached s = false) : unwindEvent s = s := by
  simp only [unwindReached, Bool.or_eq_false_iff] at h
  obtain ⟨hsplice, hseam⟩ := h
  have fire : fireCheck s = s := by
    cases hs : s.unwind.splice with
    | planned r i x f =>
      rw [hs] at hsplice
      exact fireCheck_of_ahead hs (by simpa using hsplice)
    | _ => exact fireCheck_of_not_planned (by simp [hs])
  have knife : knifeCheck s = s := by
    cases hs : s.unwind.splice with
    | fired r i x f fa kn =>
      rw [hs] at hsplice
      simp only [knifeCheck, hs, if_neg (show ¬kn ≤ s.feed.position by simpa using hsplice)]
    | _ => exact knifeCheck_of_not_fired (by simp [hs])
  rw [unwindEvent, fire, knife]
  cases hp : s.unwind.seam with
  | none => exact seamCheck_of_none hp
  | some p =>
    rw [hp] at hseam
    exact seamCheck_of_ahead hp (by simpa using hseam)

/-- The seam judged and removed at the head, before the search that follows (R169, R70). -/
def seamPassed (p : Nat) (s : State) : State :=
  raise .seamPassed
    { s with
      unwind := { s.unwind with seam := none }, marks := { s.marks with k := 65536, last := none }
      map :=
        if seamClear s p then s.map
        else
          match openSegment s with
          | none => s.map
          | some g => (flagSegment g.serial .seam s).map }

theorem seamCheck_of_reached {s : State} {p : Nat} (h : s.unwind.seam = some p) (hp : p ≤ s.feed.position) :
    seamCheck s = trySearch (seamPassed p s) := by
  simp only [seamCheck, h, if_pos hp, seamPassed]
  split
  · rfl
  · cases openSegment s <;> rfl

/-- The seam is clear with no segment open, or where the current region is a flat run that holds it (R169). -/
theorem seamClear_iff (s : State) (p : Nat) :
    seamClear s p = true ↔ openSegment s = none ∨ ∃ a b, s.head.region = .flat a b ∧ a ≤ p ∧ p < b := by
  unfold seamClear
  cases s.head.region <;> simp

theorem seamPassed_map_clear {s : State} {p : Nat} (h : openSegment s = none ∨ ∃ a b, s.head.region = .flat a b ∧ a ≤ p ∧ p < b) :
    (seamPassed p s).map = s.map :=
  if_pos ((seamClear_iff s p).mpr h)

theorem seamPassed_map_flagged {s : State} {p : Nat} {g : Segment} (hg : openSegment s = some g)
    (h : ¬∃ a b, s.head.region = .flat a b ∧ a ≤ p ∧ p < b) : (seamPassed p s).map = (flagSegment g.serial .seam s).map := by
  have hn : ¬seamClear s p = true := fun hc => ((seamClear_iff s p).mp hc).elim (by simp [hg]) h
  simp only [seamPassed, raise_map, if_neg hn, hg]

/-- What the seam's passing leaves (R169, R70, R162). -/
theorem seamCheck_spec {s : State} {p : Nat} (h : s.unwind.seam = some p) (hp : p ≤ s.feed.position) :
    let t := seamCheck s
    let inFlat : Prop := ∃ a b, s.head.region = .flat a b ∧ a ≤ p ∧ p < b
    t = { s with unwind := t.unwind, marks := t.marks, map := t.map, notices := t.notices } ∧
      t.unwind.seam = none ∧ t.marks = { s.marks with k := 65536, last := none } ∧
      ((openSegment s = none ∨ inFlat) → t.map = s.map) ∧
      (∀ g, openSegment s = some g → ¬inFlat →
        t.map =
          { s.map with
            segments := s.map.segments.map (fun w =>
              if w.serial = g.serial then { w with flags := { w.flags with seam := true } } else w) }) ∧
      ((∀ d, s.unwind.splice ≠ .due d) →
        t.unwind = { s.unwind with seam := none } ∧ t.notices = (raise .seamPassed s).notices) ∧
      Searched
        { s with
          unwind := { s.unwind with seam := none }, marks := { s.marks with k := 65536, last := none }
          map := t.map, notices := (raise .seamPassed s).notices }
        t := by
  have map : (trySearch (seamPassed p s)).map = (seamPassed p s).map := by simp
  dsimp only
  rw [seamCheck_of_reached h hp, map]
  refine ⟨?_, ?_, by simp [seamPassed], seamPassed_map_clear, fun g hg hn => ?_, fun hd => ?_, searched_trySearch _⟩
  · rw [trySearch_parts]
    rfl
  · rw [trySearch_unwind]
    rfl
  · rw [seamPassed_map_flagged hg hn]
    rfl
  · rw [(searched_trySearch (seamPassed p s)).2 (.inl fun d _ hdue => hd d hdue.1)]
    exact ⟨rfl, rfl⟩

/-- What a PLANNED splice does at its fire position (R163, R164). -/
theorem fireCheck_spec {s : State} {r : SpliceReason} {i : Side} {x f : Nat} (hs : s.unwind.splice = .planned r i x f)
    (hf : f ≤ s.feed.position) :
    fireCheck s = if producing s then fireSplice r i x f s else { s with unwind := { s.unwind with splice := .due r } } := by
  simp only [fireCheck, hs, if_pos hf]

theorem knifeCheck_spec {s : State} {r : SpliceReason} {i : Side} {x f fa kn : Nat}
    (hs : s.unwind.splice = .fired r i x f fa kn) :
    knifeCheck s =
      if kn ≤ s.feed.position then
        { s with
          unwind := { s.unwind with
            knife := some ⟨s.lineTime, s.unwind.settings.knifeDwell⟩, splice := .cutting r i x f fa kn } }
      else s := by
  simp only [knifeCheck, hs]

/-- A forward tick that reaches no plan entry and misses no mark has the Unwind Unit take the feed position alone (R5, log 18). -/
theorem exec_forwardTick_unwind {a b : Bool} {s : State} (h : ForwardTick a b s)
    (hp : NoEntryReached (s.feed.position + 1) s.plan) (hm : NoMarkMissed (s.feed.position + 1) s s.marks.list) :
    exec (.feedEncoderChange a b) s = .next (unwindEvent (forwardTicked a b s)) := by
  rw [exec_forwardTick a b s h hm, headReached_of_none (forwardTicked a b s) hp]
  cases hu : unwindReached (forwardTicked a b s)
  · rw [unwindEvent_of_not_reached hu]
    rfl
  · rfl

/-- Settles O42: the three checks by the splice record's states and the seam, and a forward tick that makes them. -/
theorem splicePositions : Obligations.SplicePositions := by
  refine ⟨fun s => ⟨fun r i x f hs hf => ⟨fun hp hk => ?_, fun hp hk => ?_, fun hp => ?_⟩, fun r i x f => fireCheck_of_ahead,
    fireCheck_of_not_planned, knifeCheck_of_not_fired, seamCheck_of_none,
    fun r i x f fa kn hs => ⟨fun hk => by rw [knifeCheck_spec hs, if_pos hk], fun hk => by
      rw [knifeCheck_spec hs, if_neg (Nat.not_le.mpr hk)]⟩,
    fun p h => ⟨seamCheck_of_ahead h, seamCheck_spec h⟩⟩,
    fun a b s h hp hm => ⟨exec_forwardTick_unwind h hp hm, fun r i x f hs hf => fireCheck_of_ahead (r := r) (i := i) (x := x) hs hf,
      fun hn => fireCheck_of_not_planned hn, fun hn => knifeCheck_of_not_fired hn, fun hn => seamCheck_of_none ?_⟩⟩
  · rw [fireCheck_spec hs hf, if_pos hp, fireSplice]
    dsimp only
    rw [knifeCheck_spec rfl, if_neg (show ¬s.feed.position + s.unwind.settings.knifeDelay ≤ s.feed.position by omega)]
  · rw [fireCheck_spec hs hf, if_pos hp, fireSplice, hk]
    dsimp only
    rw [knifeCheck_spec rfl]
    exact if_pos (Nat.le_refl s.feed.position)
  · rw [fireCheck_spec hs hf, hp]
    rfl
  · exact hn

end Sys2Proof.Machine

/-!
The requests of the Unwind Unit (O43, O44).
-/

namespace Sys2Proof.Machine

/-! ## Sides -/

@[simp] theorem otherSide_otherSide (i : Side) : otherSide (otherSide i) = i := by
  cases i <;> rfl

theorem map_otherSide_iff (o : Option Side) (i : Side) : o.map otherSide = some i ↔ o = some (otherSide i) := by
  cases o with
  | none => simp
  | some j => cases j <;> cases i <;> decide

theorem sideOf_none {n : Nat} (h : 1 < n) : sideOf n = none := by
  rw [sideOf, if_neg (by omega), if_neg (by omega)]

theorem rollIs_iff (p : RollPhase) (roll : Option RollRecord) : rollIs p roll = true ↔ ∃ o, roll = some o ∧ o.phase = p := by
  cases roll <;> simp [rollIs]

/-- The running side stays where a record that is not RUNNING is replaced by another such. -/
theorem runningSide_set {u : UnwindUnit} {side : Side} {roll : Option RollRecord}
    (h : rollIs .running (u.rolls.get side) = false) (hr : rollIs .running roll = false) :
    runningSide { u with rolls := u.rolls.set side roll } = runningSide u := by
  cases side with
  | a => exact if_congr (by simp [show rollIs .running u.rolls.a = false from h, PerSide.set, hr]) rfl rfl
  | b => exact if_congr Iff.rfl rfl (if_congr (by simp [show rollIs .running u.rolls.b = false from h, PerSide.set, hr]) rfl rfl)

/-! ## LOAD_ROLL (R153) -/

theorem loadRoll_taken {s : State} {l : Link} {r : QueuedRequest} (h : Taking .loadRoll l r s) :
    (1 < field r.args 0 1 → exec .loadRoll s = .next (refuse l r.code .range (grant l s))) ∧
      ∀ side, sideOf (field r.args 0 1) = some side →
        let core := field r.args 1 3
        let thick := field r.args 4 2
        let d0 := field r.args 6 3
        let legal : Prop :=
          10000 ≤ core ∧ core ≤ 600000 ∧ 50 ≤ thick ∧ thick ≤ 5000 ∧ core + 1 ≤ d0 ∧ d0 ≤ 2000000
        ((∃ old, s.unwind.rolls.get side = some old ∧ old.phase ≠ .spent) →
          exec .loadRoll s = .next (refuse l r.code .sideState (grant l s))) ∧
        ((∀ old, s.unwind.rolls.get side = some old → old.phase = .spent) →
          (¬legal → exec .loadRoll s = .next (refuse l r.code .range (grant l s))) ∧
          (legal →
            let len := 355 * (d0 * d0 - core * core) / (452 * thick)
            exec .loadRoll s =
              .next
                (respond l r.code .granted (num 5 len)
                  { grant l s with
                    unwind := { s.unwind with
                      rolls := s.unwind.rolls.set side (some ⟨.loaded, core, thick, d0, d0, len, false, 0⟩) } }))) := by
  refine ⟨fun hn => taken_refused h (by rw [ruleLoadRoll, sideOf_none hn]), fun side hside => ⟨?_, fun hfree => ?_⟩⟩
  · rintro ⟨old, hold, hp⟩
    refine taken_refused h ?_
    rw [ruleLoadRoll, hside]
    exact if_pos (by simp [hold, rollIs, hp])
  · have free : ((s.unwind.rolls.get side).isNone || rollIs .spent (s.unwind.rolls.get side)) = true := by
      cases hold : s.unwind.rolls.get side with
      | none => rfl
      | some old => simp [rollIs, hfree old hold]
    have ranges : (inRange 10000 600000 (field r.args 1 3) && inRange 50 5000 (field r.args 4 2) &&
        inRange (field r.args 1 3 + 1) 2000000 (field r.args 6 3)) = true ↔
        10000 ≤ field r.args 1 3 ∧ field r.args 1 3 ≤ 600000 ∧ 50 ≤ field r.args 4 2 ∧ field r.args 4 2 ≤ 5000 ∧
          field r.args 1 3 + 1 ≤ field r.args 6 3 ∧ field r.args 6 3 ≤ 2000000 := by
      simp only [inRange, Bool.and_eq_true, decide_eq_true_eq, and_assoc]
    refine ⟨fun hbad => taken_refused h ?_, fun legal => taken_granted h ?_⟩
    all_goals
      rw [ruleLoadRoll, hside]
      dsimp only
      rw [show (grant l s).unwind = s.unwind from rfl, if_neg (by rw [free]; decide)]
    · exact if_neg fun hc => hbad (ranges.mp hc)
    · rw [if_pos (ranges.mpr legal), remainingLength, if_pos (by omega)]
      rfl

/-! ## ROLL_READY and ROLL_WITHDRAW (R154) -/

theorem rollReady_taken {s : State} {l : Link} {r : QueuedRequest} (h : Taking .rollReady l r s) :
    (1 < field r.args 0 1 → exec .rollReady s = .next (refuse l r.code .range (grant l s))) ∧
      ∀ side, sideOf (field r.args 0 1) = some side →
        (rollIs .loaded (s.unwind.rolls.get side) = false →
          exec .rollReady s = .next (refuse l r.code .sideState (grant l s))) ∧
        ∀ old, s.unwind.rolls.get side = some old → old.phase = .loaded →
          let m := setRoll side (some { old with phase := .ready }) (grant l s)
          exec .rollReady s =
            .next (respond l r.code .granted [] (if runningSide s.unwind = some (otherSide side) then trySearch m else m)) := by
  refine ⟨fun hn => taken_refused h (by rw [ruleRollReady, sideOf_none hn]), fun side hside => ⟨fun hp => ?_, fun old hold hp => ?_⟩⟩
  · refine taken_refused h ?_
    rw [ruleRollReady, hside]
    exact if_pos (by simpa using hp)
  · refine taken_granted h ?_
    rw [ruleRollReady, hside]
    dsimp only
    rw [show (grant l s).unwind = s.unwind from rfl, hold, if_neg (by simp [rollIs, hp])]
    simp only [map_otherSide_iff]
    rfl

/-- What ROLL_READY leaves, with its search (R154, R162). -/
theorem rollReady_left {s : State} {l : Link} {side : Side} {old : RollRecord} (hold : s.unwind.rolls.get side = some old)
    (hp : old.phase = .loaded) :
    let m : State := setRoll side (some { old with phase := .ready }) (grant l s)
    let t := if runningSide s.unwind = some (otherSide side) then trySearch m else m
    t = { grant l s with unwind := t.unwind, notices := t.notices } ∧
      t.unwind.rolls = s.unwind.rolls.set side (some { old with phase := .ready }) ∧
      ((∀ d, s.unwind.splice ≠ .due d) → t.unwind.splice = s.unwind.splice ∧ t.notices = s.notices) ∧
      (∀ d x, s.unwind.splice = .due d → runningSide s.unwind = some (otherSide side) → producing s = true →
        s.unwind.seam = none → SearchFinds s.unwind.settings s.feed.position s.plan x →
        t.unwind.splice = .planned d side x (x - s.unwind.settings.pathLength) ∧
          t.notices = (raise .splicePlanned s).notices) ∧
      (runningSide s.unwind = some (otherSide side) → Searched m t) ∧
      (runningSide s.unwind ≠ some (otherSide side) → t = m) := by
  intro m
  dsimp only
  have searched := searched_trySearch m
  have running : runningSide m.unwind = runningSide s.unwind :=
    runningSide_set (by simp [hold, rollIs, hp]) (by simp [rollIs])
  split
  case isFalse hr => exact ⟨rfl, rfl, fun _ => ⟨rfl, rfl⟩, fun _ _ _ hc => absurd hc hr, fun hc => absurd hc hr, fun _ => rfl⟩
  case isTrue hr =>
    refine ⟨?_, ?_, fun hd => ?_, fun d x hd _ hprod hseam hx => ?_, fun _ => searched, fun hc => absurd hr hc⟩
    · rw [trySearch_parts]
      rfl
    · rw [trySearch_unwind]
      rfl
    · rw [searched.2 (.inl fun d _ hdue => hd d hdue.1)]
      exact ⟨rfl, rfl⟩
    · have due : SearchDue m d (otherSide side) := by
        refine ⟨hd, running.trans hr, ?_, hprod, hseam⟩
        rw [otherSide_otherSide, show m.unwind.rolls.get side = some { old with phase := .ready } from perSide_get_set _ _ _]
        rfl
      rw [searched.1 d _ x due hx, otherSide_otherSide]
      exact ⟨rfl, rfl⟩

/-- What a ROLL_WITHDRAW that its checks pass leaves: LOADED, and a splice that waited for the roll DUE with ROLL_LOW (R154). -/
def rollWithdrawn (side : Side) (old : RollRecord) (s : State) : State :=
  let t := setRoll side (some { old with phase := .loaded }) s
  if runningSide s.unwind = some (otherSide side) ∧ s.unwind.splice.isWaiting = true then
    raise .rollLow { t with unwind := { t.unwind with splice := dueAgain s.unwind.splice } }
  else t

theorem rollWithdraw_taken {s : State} {l : Link} {r : QueuedRequest} (h : Taking .rollWithdraw l r s) :
    (1 < field r.args 0 1 → exec .rollWithdraw s = .next (refuse l r.code .range (grant l s))) ∧
      ∀ side, sideOf (field r.args 0 1) = some side →
        (s.unwind.splice.joining = some side → exec .rollWithdraw s = .next (refuse l r.code .state (grant l s))) ∧
        (s.unwind.splice.joining ≠ some side → rollIs .ready (s.unwind.rolls.get side) = false →
          exec .rollWithdraw s = .next (refuse l r.code .sideState (grant l s))) ∧
        ∀ old, s.unwind.splice.joining ≠ some side → s.unwind.rolls.get side = some old → old.phase = .ready →
          exec .rollWithdraw s = .next (respond l r.code .granted [] (rollWithdrawn side old (grant l s))) := by
  refine ⟨fun hn => taken_refused h (by rw [ruleRollWithdraw, sideOf_none hn]), fun side hside =>
    ⟨fun hj => taken_refused h ?_, fun hj hp => taken_refused h ?_, fun old hj hold hp => taken_granted h ?_⟩⟩
  all_goals
    rw [ruleRollWithdraw, hside]
    dsimp only
    rw [show (grant l s).unwind = s.unwind from rfl]
  · rw [if_pos hj]
  · rw [if_neg hj, if_pos (by simp [hp])]
  · rw [if_neg hj, hold, if_neg (by simp [rollIs, hp])]
    simp only [map_otherSide_iff, backToDue_eq, rollWithdrawn, show (grant l s).unwind = s.unwind from rfl]
    split <;> rfl

/-- The three cases of what ROLL_WITHDRAW leaves of the splice (R154). -/
theorem rollWithdrawn_left {s : State} {side : Side} {old : RollRecord} :
    let t := rollWithdrawn side old s
    t = { s with unwind := t.unwind, notices := t.notices } ∧
      t.unwind.rolls = s.unwind.rolls.set side (some { old with phase := .loaded }) ∧
      (∀ d i x f, s.unwind.splice = .planned d i x f → runningSide s.unwind = some (otherSide side) →
        t.unwind.splice = .due d ∧ t.notices = (raise .rollLow s).notices) ∧
      (∀ d, s.unwind.splice = .due d → runningSide s.unwind = some (otherSide side) →
        t.unwind.splice = .due d ∧ t.notices = (raise .rollLow s).notices) ∧
      ((runningSide s.unwind ≠ some (otherSide side) ∨
          ((∀ d, s.unwind.splice ≠ .due d) ∧ ∀ d i x f, s.unwind.splice ≠ .planned d i x f)) →
        t.unwind.splice = s.unwind.splice ∧ t.notices = s.notices) := by
  have waits : s.unwind.splice.isWaiting = true ↔
      (∃ d, s.unwind.splice = .due d) ∨ ∃ d i x f, s.unwind.splice = .planned d i x f := by
    cases s.unwind.splice <;> simp [Splice.isWaiting]
  intro t
  by_cases hc : runningSide s.unwind = some (otherSide side) ∧ s.unwind.splice.isWaiting = true
  · have ht : t = _ := if_pos hc
    rw [ht]
    refine ⟨rfl, rfl, fun d i x f hs _ => ⟨?_, rfl⟩, fun d hs _ => ⟨?_, rfl⟩, fun hn => ?_⟩
    · exact congrArg dueAgain hs
    · exact congrArg dueAgain hs
    · obtain ⟨hr, hw⟩ := hc
      rcases hn with hn | ⟨hd, hp⟩
      · exact absurd hr hn
      · rcases waits.mp hw with ⟨d, hs⟩ | ⟨d, i, x, f, hs⟩
        · exact absurd hs (hd d)
        · exact absurd hs (hp d i x f)
  · have ht : t = _ := if_neg hc
    rw [ht]
    exact ⟨rfl, rfl, fun d i x f hs hr => absurd ⟨hr, waits.mpr (.inr ⟨d, i, x, f, hs⟩)⟩ hc,
      fun d hs hr => absurd ⟨hr, waits.mpr (.inl ⟨d, hs⟩)⟩ hc, fun _ => ⟨rfl, rfl⟩⟩

/-! ## ROLL_ASSIGN (R155) -/

/-- The record across from an assigned roll: a RUNNING one, or one in CHECK, is SPENT (R155). -/
def rollRelieved (roll : Option RollRecord) : Option RollRecord :=
  roll.map (fun o => if o.phase = .running ∨ o.phase = .check then { o with phase := .spent } else o)

theorem rollRelieved_eq (roll : Option RollRecord) :
    (if (rollIs .running roll || rollIs .check roll) = true then setPhase .spent roll else roll) = rollRelieved roll := by
  cases roll with
  | none => rfl
  | some o =>
    simp only [rollIs, Bool.or_eq_true, beq_iff_eq, setPhase, rollRelieved, Option.map_some]
    split <;> rfl

/-- The state in which a roll is assigned, before it is judged (R155). -/
def rollAssigned (side : Side) (old : RollRecord) (s : State) : State :=
  { s with
    unwind := { s.unwind with
      rolls := (s.unwind.rolls.set side (some { old with phase := .running })).set (otherSide side)
        (rollRelieved (s.unwind.rolls.get (otherSide side)))
      interval := none, splice := .idle } }

theorem rollAssign_taken {s : State} {l : Link} {r : QueuedRequest} (h : Taking .rollAssign l r s) :
    (1 < field r.args 0 1 → exec .rollAssign s = .next (refuse l r.code .range (grant l s))) ∧
      ∀ side, sideOf (field r.args 0 1) = some side →
        ((producing s = true ∨ s.unwind.splice.inProgress = true) →
          exec .rollAssign s = .next (refuse l r.code .state (grant l s))) ∧
        (producing s = false → s.unwind.splice.inProgress = false →
          (∀ old, s.unwind.rolls.get side = some old → old.phase ≠ .loaded ∧ old.phase ≠ .ready ∧ old.phase ≠ .check) →
          exec .rollAssign s = .next (refuse l r.code .sideState (grant l s))) ∧
        ∀ old, producing s = false → s.unwind.splice.inProgress = false → s.unwind.rolls.get side = some old →
          (old.phase = .loaded ∨ old.phase = .ready ∨ old.phase = .check) →
          exec .rollAssign s =
            .next (respond l r.code .granted [] (judgeReserves (rollAssigned side old (grant l s)))) := by
  refine ⟨fun hn => taken_refused h (by rw [ruleRollAssign, sideOf_none hn]), fun side hside =>
    ⟨fun hbusy => taken_refused h ?_, fun hp hi hold => taken_refused h ?_, fun old hp hi hold hphase => taken_granted h ?_⟩⟩
  all_goals
    rw [ruleRollAssign, hside]
    dsimp only
    rw [show (grant l s).unwind = s.unwind from rfl, atRest_eq, producing_grant]
  · exact if_pos (by simpa using hbusy)
  · rw [if_neg (by simp [hp, hi])]
    refine if_pos ?_
    cases hr : s.unwind.rolls.get side with
    | none => rfl
    | some old =>
      obtain ⟨loaded, ready, check⟩ := hold old hr
      simp [rollIs, loaded, ready, check]
  · rw [if_neg (by simp [hp, hi]), hold, if_neg (by rcases hphase with hc | hc | hc <;> simp [rollIs, hc]), rollRelieved_eq]
    rfl

/-- What the judgement of an assigned roll leaves (R155). -/
theorem rollAssigned_judged {s : State} {side : Side} {old : RollRecord} :
    let t := judgeReserves (rollAssigned side old s)
    t.unwind.rolls.get side = some { old with phase := .running } ∧
      (∀ o, s.unwind.rolls.get (otherSide side) = some o → (o.phase = .running ∨ o.phase = .check) →
        t.unwind.rolls.get (otherSide side) = some { o with phase := .spent }) ∧
      (∀ o, s.unwind.rolls.get (otherSide side) = some o → o.phase ≠ .running → o.phase ≠ .check →
        t.unwind.rolls.get (otherSide side) = some o) ∧
      t.unwind.interval = none ∧ t.unwind.paste = s.unwind.paste ∧ t.plan = s.plan ∧ t.carrier = s.carrier := by
  have unwind := judgeReserves_unwind (rollAssigned side old s)
  have across : (rollAssigned side old s).unwind.rolls.get (otherSide side) =
      rollRelieved (s.unwind.rolls.get (otherSide side)) := perSide_get_set _ _ _
  refine ⟨?_, fun o ho hp => ?_, fun o ho hrun hcheck => ?_, ?_, ?_, by simp [rollAssigned], by simp [rollAssigned]⟩
  all_goals rw [unwind]
  · exact (perSide_get_set_other _ _ _ _ (otherSide_ne side).symm).trans (perSide_get_set _ _ _)
  · exact across.trans (by rw [ho, rollRelieved, Option.map_some, if_pos hp])
  · exact across.trans (by rw [ho, rollRelieved, Option.map_some, if_neg (by simp [hrun, hcheck])])
  · rfl
  · rfl

/-- Settles O43: the checks of each request, and what it leaves. -/
theorem rollRequests : Obligations.RollRequests := by
  intro s l r
  refine ⟨loadRoll_taken, fun h => ?_, fun h => ?_, fun h => ?_⟩
  · obtain ⟨range, sides⟩ := rollReady_taken h
    refine ⟨range, fun side hside => ⟨(sides side hside).1, fun old hold hp => ?_⟩⟩
    obtain ⟨frame, rolls, none_due, found, searched, stands⟩ := rollReady_left (l := l) hold hp
    exact ⟨_, (sides side hside).2 old hold hp, frame, rolls, none_due, found, searched, stands⟩
  · obtain ⟨range, sides⟩ := rollWithdraw_taken h
    refine ⟨range, fun side hside => ?_⟩
    obtain ⟨state, sideState, granted⟩ := sides side hside
    exact ⟨state, sideState, fun old hj hold hp => ⟨_, granted old hj hold hp, rollWithdrawn_left⟩⟩
  · obtain ⟨range, sides⟩ := rollAssign_taken h
    refine ⟨range, fun side hside => ?_⟩
    obtain ⟨state, sideState, granted⟩ := sides side hside
    refine ⟨state, sideState, fun old hp hi hold hphase => ⟨_, granted old hp hi hold hphase, ?_⟩⟩
    obtain ⟨own, relieved, kept, interval, paste, plan, carrier⟩ := rollAssigned_judged (s := grant l s) (side := side) (old := old)
    exact ⟨own, relieved, kept, interval, paste, plan, carrier, reservesJudged_judgeReserves _⟩

end Sys2Proof.Machine

/-!
SPLICE_NOW and SET_UNWIND (O44).
-/

namespace Sys2Proof.Machine

/-! ## SPLICE_NOW (R160) -/

/-- A splice made DUE: with the roll across not READY, ROLL_LOW and no search; else the search (R159, R160, R162). -/
theorem enterDue_spec {s : State} {d : SpliceReason} {i : Side} (hi : runningSide s.unwind = some i) :
    (rollIs .ready (s.unwind.rolls.get (otherSide i)) = false →
      enterDue d s = raise .rollLow { s with unwind := { s.unwind with splice := .due d } }) ∧
      (rollIs .ready (s.unwind.rolls.get (otherSide i)) = true →
        enterDue d s = trySearch { s with unwind := { s.unwind with splice := .due d } }) := by
  have ready : otherReady { s.unwind with splice := .due d } = rollIs .ready (s.unwind.rolls.get (otherSide i)) := by
    simp only [otherReady, show runningSide { s.unwind with splice := .due d } = some i from hi]
  constructor
  · intro hn
    rw [enterDue]
    dsimp only
    rw [if_neg (by rw [ready, hn]; decide)]
    refine (searched_trySearch _).2 (.inl ?_)
    rintro e j ⟨-, hj, hready, -⟩
    obtain rfl := Option.some.inj (hi.symm.trans hj)
    exact absurd (hn.symm.trans hready) (by decide)
  · intro hy
    rw [enterDue]
    dsimp only
    rw [if_pos (by rw [ready, hy])]

theorem spliceNow_taken {s : State} {l : Link} {r : QueuedRequest} (h : Taking .spliceNow l r s) :
    ((s.unwind.splice ≠ .idle ∨ s.unwind.seam ≠ none) →
      exec .spliceNow s = .next (refuse l r.code .state (grant l s))) ∧
      (s.unwind.splice = .idle → s.unwind.seam = none → runningSide s.unwind = none →
        exec .spliceNow s = .next (refuse l r.code .noRoll (grant l s))) ∧
      ∀ i, s.unwind.splice = .idle → s.unwind.seam = none → runningSide s.unwind = some i →
        exec .spliceNow s = .next (respond l r.code .granted [] (enterDue .request (grant l s))) := by
  refine ⟨fun hbusy => taken_refused h ?_, fun hs hm hr => taken_refused h ?_, fun i hs hm hr => taken_granted h ?_⟩
  all_goals rw [ruleSpliceNow, show (grant l s).unwind = s.unwind from rfl]
  · exact if_pos (hbusy.imp id fun hm => Option.isSome_iff_ne_none.mpr hm)
  · rw [if_neg (by simp [hs, hm]), hr]
    rfl
  · rw [if_neg (by simp [hs, hm]), hr]
    rfl

/-- What SPLICE_NOW leaves, with its search (R160, R162). -/
theorem enterDue_left {s : State} {d : SpliceReason} {i : Side} (hm : s.unwind.seam = none)
    (hi : runningSide s.unwind = some i) :
    let t := enterDue d s
    t = { s with unwind := { s.unwind with splice := t.unwind.splice }, notices := t.notices } ∧
      (rollIs .ready (s.unwind.rolls.get (otherSide i)) = false →
        t.unwind.splice = .due d ∧ t.notices = (raise .rollLow s).notices) ∧
      (rollIs .ready (s.unwind.rolls.get (otherSide i)) = true →
        (producing s = false ∨ ∀ x, ¬SearchFinds s.unwind.settings s.feed.position s.plan x) →
        t.unwind.splice = .due d ∧ t.notices = s.notices) ∧
      ∀ x, rollIs .ready (s.unwind.rolls.get (otherSide i)) = true → producing s = true →
        SearchFinds s.unwind.settings s.feed.position s.plan x →
        t.unwind.splice = .planned d (otherSide i) x (x - s.unwind.settings.pathLength) ∧
          t.notices = (raise .splicePlanned s).notices := by
  let due : State := { s with unwind := { s.unwind with splice := .due d } }
  obtain ⟨low, search⟩ := enterDue_spec (d := d) hi
  obtain ⟨found, stands⟩ := searched_trySearch due
  refine ⟨?_, fun hn => ?_, fun hy hno => ?_, fun x hy hp hx => ?_⟩
  · cases hready : rollIs .ready (s.unwind.rolls.get (otherSide i))
    · rw [low hready]
      rfl
    · rw [search hready, trySearch_parts]
  · rw [low hn]
    exact ⟨rfl, rfl⟩
  · rw [search hy, stands]
    · exact ⟨rfl, rfl⟩
    · refine hno.imp (fun hp e j hdue => ?_) id
      have hprod : producing s = true := hdue.2.2.2.1
      simp [hp] at hprod
  · have hdue : SearchDue due d i := ⟨rfl, hi, hy, hp, hm⟩
    rw [search hy, found d i x hdue hx]
    exact ⟨rfl, rfl⟩

/-! ## SET_UNWIND (R171, R172) -/

/-- The ranges of 9.8. -/
theorem unwindValid_iff (args : List Byte) :
    (unwindSettingsOf args).valid = true ↔
      (1000 ≤ field args 0 3 ∧ field args 0 3 ≤ 4000000) ∧ field args 3 3 ≤ 1000000 ∧
        (2 ≤ field args 6 3 ∧ field args 6 3 ≤ 200000) ∧ field args 9 3 ≤ 200000 ∧
        (50 ≤ field args 12 2 ∧ field args 12 2 ≤ 5000) ∧ (1000 ≤ field args 14 3 ∧ field args 14 3 ≤ 500000) ∧
        field args 17 4 ≤ 1000000000 ∧ field args 21 4 ≤ field args 17 4 := by
  simp only [UnwindSettings.valid, inRange, Bool.and_eq_true, decide_eq_true_eq, Nat.zero_le, true_and, and_assoc]
  exact Iff.rfl

/-- The state under new settings, before the running roll is judged (R172). -/
def unwindResettled (args : List Byte) (s : State) : State :=
  { s with
    unwind := { s.unwind with
      settings := unwindSettingsOf args, splice := Splice.resettled { s.unwind with settings := unwindSettingsOf args } } }

theorem setUnwind_taken {s : State} {l : Link} {r : QueuedRequest} (h : Taking .setUnwind l r s) :
    ((producing s = true ∨ s.unwind.splice.inProgress = true) →
      exec .setUnwind s = .next (refuse l r.code .state (grant l s))) ∧
      (producing s = false → s.unwind.splice.inProgress = false → (unwindSettingsOf r.args).valid = false →
        exec .setUnwind s = .next (refuse l r.code .range (grant l s))) ∧
      (producing s = false → s.unwind.splice.inProgress = false → (unwindSettingsOf r.args).valid = true →
        exec .setUnwind s = .next (respond l r.code .granted [] (judgeReserves (unwindResettled r.args (grant l s))))) := by
  refine ⟨fun hbusy => taken_refused h ?_, fun hp hi hv => taken_refused h ?_, fun hp hi hv => taken_granted h ?_⟩
  all_goals rw [ruleSetUnwind, show (grant l s).unwind = s.unwind from rfl, atRest_eq, producing_grant]
  · exact if_pos (by simpa using hbusy)
  · rw [if_neg (by simp [hp, hi]), hv]
    rfl
  · rw [if_neg (by simp [hp, hi]), hv]
    rfl

/-- The splice record under new settings, by its reason (R172). -/
theorem resettled_spec (u : UnwindUnit) :
    (u.splice = .idle → Splice.resettled u = .idle) ∧
      ∀ d, (u.splice = .due d ∨ ∃ i x f, u.splice = .planned d i x f) →
        (d = .request → Splice.resettled u = .due .request) ∧
          (∀ roll, d = .reserve → runningRoll u = some roll →
            Splice.resettled u = if u.settings.changeReserve < roll.length then .idle else .due .reserve) ∧
          (d = .reserve → runningRoll u = none → Splice.resettled u = .due .reserve) := by
  refine ⟨fun h => by simp [Splice.resettled, h, Splice.backToDue], fun d h => ?_⟩
  have back : u.splice.backToDue = .due d := by
    rcases h with h | ⟨i, x, f, h⟩ <;> rw [h] <;> rfl
  unfold Splice.resettled
  rw [back]
  refine ⟨?_, ?_, ?_⟩
  · rintro rfl
    rfl
  · rintro roll rfl hr
    rw [hr]
  · rintro rfl hr
    rw [hr]

/-- Settles O44: SPLICE_NOW by the roll across and its search; SET_UNWIND by the record under the new settings. -/
theorem spliceRequests : Obligations.SpliceRequests := by
  intro s l r
  refine ⟨fun h => ?_, fun h => ?_⟩
  · obtain ⟨state, noRoll, granted⟩ := spliceNow_taken h
    exact ⟨state, noRoll, fun i hs hm hi => ⟨_, granted i hs hm hi, enterDue_left (s := grant l s) hm hi⟩⟩
  · obtain ⟨state, range, granted⟩ := setUnwind_taken h
    obtain ⟨idle, due⟩ := resettled_spec { s.unwind with settings := unwindSettingsOf r.args }
    exact ⟨state, fun hp hi hbad => range hp hi (Bool.eq_false_iff.mpr fun hc => hbad ((unwindValid_iff _).mp hc)),
      fun hp hi legal => ⟨_, _, granted hp hi ((unwindValid_iff _).mpr legal), idle, due, reservesJudged_judgeReserves _⟩⟩

end Sys2Proof.Machine

/-!
RUN, DRAIN, STOP, RESUME and the safety input (O27, O28, O29, O31).
-/

namespace Sys2Proof.Machine

/-! ## RUN (R96) -/

theorem runningSide_isNone (u : UnwindUnit) :
    (runningSide u).isNone = true ↔ rollIs .running u.rolls.a = false ∧ rollIs .running u.rolls.b = false := by
  unfold runningSide
  cases rollIs .running u.rolls.a <;> cases rollIs .running u.rolls.b <;> simp

/-- What the entry into RUNNING leaves, with its search (R96, R162). -/
theorem enterRunning_left (s : State) :
    let t := enterRunning s
    t = { s with run := t.run, feed := t.feed, unwind := t.unwind, notices := t.notices } ∧
      t.run = { s.run with state := .running, lastChange := s.lineTime } ∧
      t.feed = { s.feed with excursion := 0 } ∧ t.unwind.rolls = s.unwind.rolls ∧
      (((∀ d, s.unwind.splice ≠ .due d) ∨
          (∀ i, runningSide s.unwind = some i → rollIs .ready (s.unwind.rolls.get (otherSide i)) = false) ∨
          s.unwind.seam ≠ none ∨ ∀ x, ¬SearchFinds s.unwind.settings s.feed.position s.plan x) →
        t.unwind = s.unwind ∧ t.notices = s.notices) ∧
      ∀ d i x, s.unwind.splice = .due d → runningSide s.unwind = some i →
        rollIs .ready (s.unwind.rolls.get (otherSide i)) = true → s.unwind.seam = none →
        SearchFinds s.unwind.settings s.feed.position s.plan x →
        t.unwind = { s.unwind with splice := .planned d (otherSide i) x (x - s.unwind.settings.pathLength) } ∧
          t.notices = (raise .splicePlanned s).notices := by
  intro t
  let m : State :=
    { s with run := { s.run with state := .running, lastChange := s.lineTime }, feed := { s.feed with excursion := 0 } }
  have ht : t = trySearch m := rfl
  obtain ⟨found, stands⟩ := searched_trySearch m
  rw [ht]
  refine ⟨?_, by simp [m], by simp [m], ?_, fun hno => ?_, fun d i x hd hi hready hseam hx => ?_⟩
  · rw [trySearch_parts]
  · rw [trySearch_unwind]
  · rw [stands]
    · exact ⟨rfl, rfl⟩
    · rcases hno with hd | hn | hseam | hx
      · exact .inl fun d _ hdue => hd d hdue.1
      · refine .inl fun d i ⟨_, hi, hready, _⟩ => ?_
        exact absurd ((hn i hi).symm.trans hready) (by decide)
      · exact .inl fun d _ ⟨_, _, _, _, hs⟩ => hseam hs
      · exact .inr hx
  · rw [found d i x ⟨hd, hi, hready, rfl, hseam⟩ hx]
    exact ⟨rfl, rfl⟩

/-- Settles O28: RUN's checks, and the entry into RUNNING with its search. -/
theorem runTaken : Obligations.RunTaken := by
  intro s l r h
  refine ⟨fun hs => taken_refused h (if_pos hs), fun hs ha hb => taken_refused h ?_, fun hs hroll =>
    ⟨_, taken_granted (t := enterRunning (grant l s)) (d := []) h ?_, enterRunning_left (grant l s)⟩⟩
  all_goals rw [ruleRun, show (grant l s).run = s.run from rfl, show (grant l s).unwind = s.unwind from rfl,
    if_neg (by simp [hs])]
  · exact if_pos ((runningSide_isNone _).mpr ⟨ha, hb⟩)
  · refine if_neg fun hn => ?_
    obtain ⟨ha, hb⟩ := (runningSide_isNone _).mp hn
    rcases hroll with hroll | hroll
    · exact absurd (ha.symm.trans hroll) (by decide)
    · exact absurd (hb.symm.trans hroll) (by decide)

/-! ## DRAIN and STOP (R97, R99) -/

theorem drainComplete_iff (s : State) :
    drainComplete s = true ↔ s.plan = [] ∧ (∀ c ∈ s.planner.contexts, c.planning = none) ∧ s.head.pendingFold = none := by
  simp [drainComplete, and_assoc]

/-- A transition into STOPPED, the pending fold missed (R83). -/
theorem enterStopped_eq (s : State) :
    enterStopped s =
      { s with
        run := { s.run with state := .stopped, lastChange := s.lineTime }
        feed := { s.feed with excursion := 0 }
        head := { s.head with pendingFold := none }
        map := match s.head.pendingFold with
          | some p => recordedOn p.serial foldMissed s.map
          | none => s.map } :=
  missPending_eq _

/-- With no fold pending nothing is missed (R83). -/
theorem enterStopped_of_none {s : State} (h : s.head.pendingFold = none) :
    enterStopped s =
      { s with
        run := { s.run with state := .stopped, lastChange := s.lineTime }, feed := { s.feed with excursion := 0 } } := by
  simp [enterStopped, missPending, h]

theorem producing_eq_false (s : State) : producing s = false ↔ s.run.state = .stopped ∨ s.run.state = .halted := by
  unfold producing
  cases s.run.state <;> decide

/-- Settles O29: DRAIN by whether the drain is complete, STOP by the state. -/
theorem drainAndStopTaken : Obligations.DrainAndStopTaken := by
  intro s l r
  refine ⟨fun h => ⟨fun hs => taken_refused h (if_pos hs), fun hs hplan hctx hpend => ?_, fun hs hopen => ?_⟩,
    fun h => ⟨fun hs => taken_refused h ?_, fun hs => ⟨enterStopped (grant l s), taken_granted h ?_, ?_⟩⟩⟩
  · refine (taken_granted (t := raise .drained (enterStopped (grant l s))) (d := [0]) h ?_).trans ?_
    · rw [ruleDrain, if_neg (by simpa using hs), if_pos ((drainComplete_iff (grant l s)).mpr ⟨hplan, hctx, hpend⟩)]
      rfl
    · rw [enterStopped_of_none (s := grant l s) hpend]
      rfl
  · refine taken_granted h ?_
    rw [ruleDrain, if_neg (by simpa using hs), if_neg]
    · rfl
    · intro hc
      obtain ⟨hplan, hctx, hpend⟩ := (drainComplete_iff _).mp hc
      rcases hopen with ho | ⟨c, hc, ho⟩ | ho
      · exact ho hplan
      · exact ho (hctx c hc)
      · exact ho hpend
  · exact if_neg (by rw [producing_grant, (producing_eq_false s).mpr hs]; decide)
  · exact if_pos (by rw [producing_grant, (producing_iff s).mpr hs])
  · rw [enterStopped_eq]
    refine ⟨rfl, rfl, rfl, rfl, fun hp => ?_, fun p hp => ?_⟩
    · simp only [show (grant l s).head.pendingFold = none from hp]
      rfl
    · simp only [show (grant l s).head.pendingFold = some p from hp]
      rfl

/-! ## RESUME (R102, R103) -/

theorem rollOutHolds_iff (u : UnwindUnit) :
    rollOutHolds u = true ↔ ∀ roll, runningRoll u = some roll → roll.length ≤ u.settings.endReserve := by
  unfold rollOutHolds
  cases runningRoll u <;> simp

/-- A cause of the set is active (R102). -/
theorem activeCauses_ne_none (s : State) :
    activeCauses s ≠ CauseSet.none ↔
      (s.run.causes.safe = true ∧ s.levels.safeStop = true) ∨
        (s.run.causes.mapFull = true ∧ 24 ≤ s.map.segments.length) ∨
        (s.run.causes.rollOut = true ∧
          ∀ roll, runningRoll s.unwind = some roll → roll.length ≤ s.unwind.settings.endReserve) ∨
        (s.run.causes.spliceFail = true ∧
          (rollIs .check s.unwind.rolls.a = true ∨ rollIs .check s.unwind.rolls.b = true)) := by
  rw [← rollOutHolds_iff, ← Bool.or_eq_true, ← Bool.and_eq_true, ← Bool.and_eq_true, ← Bool.and_eq_true,
    ← decide_eq_true_iff (p := 24 ≤ s.map.segments.length), ← Bool.and_eq_true]
  unfold activeCauses spliceFailHolds
  generalize (s.run.causes.safe && s.levels.safeStop) = a
  generalize (s.run.causes.mapFull && decide (24 ≤ s.map.segments.length)) = b
  generalize (s.run.causes.rollOut && rollOutHolds s.unwind) = c
  generalize (s.run.causes.spliceFail && (rollIs .check s.unwind.rolls.a || rollIs .check s.unwind.rolls.b)) = d
  cases a <;> cases b <;> cases c <;> cases d <;> simp [CauseSet.none]

/-- With the set empty and the cycle IDLE the head settles CLAMP and presents the latch (R79, R82). -/
theorem presentLatch_settleClamp_idle {s : State} (hc : s.head.cycle = .idle) (hs : s.run.causes.safe = false) :
    presentLatch (settleClamp s) =
      { s with
        head := { s.head with
          strokeW := s.head.latchW, strokeH := s.head.latchH
          clamp := s.head.clamp || decide (s.head.bladeGap.dur ≤ elapsed s.lineTime s.head.bladeGap.start) } } := by
  have settled : settleClamp s =
      { s with
        head := { s.head with
          clamp := s.head.clamp || decide (s.head.bladeGap.dur ≤ elapsed s.lineTime s.head.bladeGap.start) } } := by
    by_cases hg : s.head.bladeGap.dur ≤ elapsed s.lineTime s.head.bladeGap.start
    · simp [settleClamp, clampDue, hc, hs, hg, BladeCycle.isIdle, Timer.expired]
    · simp [settleClamp, clampDue, hg, Timer.expired]
  rw [settled, presentLatch]
  exact if_pos (by simp [hc, hs, BladeCycle.isIdle])

/-- Outside IDLE the head's outputs stand (R79, R82). -/
theorem presentLatch_settleClamp_busy {s : State} (hc : s.head.cycle ≠ .idle) : presentLatch (settleClamp s) = s := by
  have busy : s.head.cycle.isIdle = false := Bool.eq_false_iff.mpr fun h => hc ((isIdle_iff _).mp h)
  simp [settleClamp, clampDue, presentLatch, busy]

/-- What a granted RESUME leaves of the head (R103, R79, R82). -/
theorem resumeLine_left (s : State) :
    let t := resumeLine s
    t = { s with run := t.run, head := t.head } ∧
      t.run = { s.run with state := .stopped, causes := CauseSet.none, lastChange := s.lineTime } ∧
      (s.run.causes.safe = false → t.head = s.head) ∧
      (s.run.causes.safe = true → s.head.cycle = .idle →
        t.head =
          { s.head with
            strokeW := s.head.latchW, strokeH := s.head.latchH
            clamp := s.head.clamp || decide (s.head.bladeGap.dur ≤ elapsed s.lineTime s.head.bladeGap.start) }) ∧
      (s.head.cycle ≠ .idle → t.head = s.head) := by
  intro t
  let m : State :=
    { s with run := { s.run with state := .stopped, causes := CauseSet.none, lastChange := s.lineTime } }
  cases hs : s.run.causes.safe with
  | false =>
    have ht : t = m := if_neg (by simp [hs])
    rw [ht]
    exact ⟨rfl, rfl, fun _ => rfl, by simp, fun _ => rfl⟩
  | true =>
    have ht : t = presentLatch (settleClamp m) := if_pos hs
    rw [ht]
    by_cases hc : s.head.cycle = .idle
    · rw [presentLatch_settleClamp_idle (s := m) hc rfl]
      exact ⟨rfl, rfl, by simp, fun _ _ => rfl, fun hn => absurd hc hn⟩
    · rw [presentLatch_settleClamp_busy (s := m) hc]
      exact ⟨rfl, rfl, by simp, fun _ hi => absurd hi hc, fun _ => rfl⟩

/-- Settles O31: RESUME's checks, and what it leaves. -/
theorem resumeTaken : Obligations.ResumeTaken := by
  intro s l r h active
  have none_ : activeCauses (grant l s) ≠ CauseSet.none ↔ active := activeCauses_ne_none (grant l s)
  refine ⟨fun hs => taken_refused h (if_pos hs), fun hs ha => taken_refused h ?_, fun hs hn =>
    ⟨_, taken_granted (t := resumeLine (grant l s)) (d := []) h ?_, resumeLine_left (grant l s)⟩⟩
  all_goals rw [ruleResume, if_neg (by simpa using hs)]
  · exact if_pos (none_.mpr ha)
  · exact if_neg fun hc => hn (none_.mp hc)

/-! ## The safety input (R104) -/

theorem dueAgain_of_inProgress {sp : Splice} (h : sp.inProgress = true) : dueAgain sp = sp := by
  cases sp <;> first | rfl | cases h

/-- The safety input asserted, SAFE taken by Run Control, the head and the heat, before a splice in progress fails: what both
cases have in common (R104, R94, R95, R85, R142). -/
theorem safeTaken_left {s : State} (h : s.run.causes.safe = false) :
    let t := safeTaken s
    t = { s with
          run := t.run
          feed := { s.feed with excursion := t.feed.excursion }
          head := headSafe s
          map := foldsLost s
          heat := { s.heat with zones := t.heat.zones }
          unwind := t.unwind
          notices := (raise .halted s).notices } ∧
      t.run = safeRun s ∧ t.feed.excursion = (if s.run.state = .halted then s.feed.excursion else 0) ∧
      (∀ z : ZoneId, t.heat.zones.get z = closedAt s.lineTime (s.heat.zones.get z)) ∧
      t.unwind = { s.unwind with splice := if s.run.state = .halted then s.unwind.splice else dueAgain s.unwind.splice } := by
  dsimp only
  rw [safeTaken_eq h]
  exact ⟨rfl, rfl, rfl, safeHeat_zone s, rfl⟩

/-- What the run control holds after SAFE joins its set, by whether the line was HALTED (R94, R95). -/
theorem safeRun_left (s : State) :
    (s.run.state ≠ .halted → (safeRun s).haltEntry = some (.safe, s.lineTime) ∧ (safeRun s).lastChange = s.lineTime) ∧
      (s.run.state = .halted → (safeRun s).haltEntry = s.run.haltEntry ∧ (safeRun s).lastChange = s.run.lastChange) := by
  unfold safeRun
  exact ⟨fun h => by rw [if_neg h]; exact ⟨rfl, rfl⟩, fun h => by rw [if_pos h]; exact ⟨rfl, rfl⟩⟩

/-- SAFE fails a splice in progress: the unwind's account of it (R168). -/
theorem safeUnwind_left {s : State} (h : s.run.causes.safe = false) (hp : s.unwind.splice.inProgress = true) :
    let t := addSafe s
    t = { safeTaken s with
          run := { safeRun s with causes := (safeRun s).causes.add .spliceFail }
          unwind := spliceFailed s.unwind
          notices := t.notices } ∧
      Delivered (fun n => n = .halted ∨ n = .spliceFailed) s t := by
  have unwind : (safeTaken s).unwind = s.unwind := by
    rw [(safeTaken_left h).2.2.2.2]
    split
    · rfl
    · rw [dueAgain_of_inProgress hp]
  let w : State := { safeTaken s with unwind := spliceFailed s.unwind }
  have taken : addSafe s = raise .spliceFailed (addCause .spliceFail w) := by
    rw [addSafe_of_new h, safeUnwind_of_inProgress (by rw [unwind, hp]), unwind]
  have run : w.run = safeRun s := (safeTaken_left h).2.1
  have halted : w.run.state = .halted := by rw [run, safeRun_halted]
  have notices : w.notices = (raise .halted s).notices := by
    change (safeTaken s).notices = _
    rw [(safeTaken_left h).1]
  dsimp only
  refine ⟨?_, ?_⟩
  · rw [taken, addCause_of_halted' halted, run]
    rfl
  · rw [taken]
    have first : Delivered (fun n => n = .halted) s w := (delivered_raise .halted s).congr (fun _ => Iff.rfl) rfl notices
    have cause : Delivered (fun n => n = .halted) s (addCause .spliceFail w) := by
      rw [addCause_eq _ _ (by decide), causeAdded]
      split
      · exact first
      · exact (first.trans (delivered_raise .halted w)).congr (fun n => or_self_iff) rfl rfl
    exact cause.trans (delivered_raise .spliceFailed _)

/-- The rolls' side that a splice in progress joins. -/
theorem joining_of_inProgress {sp : Splice} {new : Side}
    (h : (∃ d x f fa kn, sp = .fired d new x f fa kn) ∨ ∃ d x f fa kn, sp = .cutting d new x f fa kn) :
    sp.inProgress = true ∧ sp.joining = some new := by
  obtain ⟨d, x, f, fa, kn, rfl⟩ | ⟨d, x, f, fa, kn, rfl⟩ := h <;> exact ⟨rfl, rfl⟩

theorem spliceFailed_roll {u : UnwindUnit} {new : Side} (h : u.splice.joining = some new) (side : Side) :
    (spliceFailed u).rolls.get side =
      if side = new ∨ runningSide u = some side then (u.rolls.get side).map (fun roll => { roll with phase := .check })
      else u.rolls.get side := by
  have rolls : (spliceFailed u).rolls.get side = rollFailed u side := by cases side <;> rfl
  rw [rolls, rollFailed, h]
  simp only [Option.some.injEq, eq_comm (a := new)]
  rfl

/-- The safety input asserted where SAFE is not in the set. -/
theorem safeStop_asserted {s : State} (h : s.inReset = false) (hl : s.levels.safeStop = false) :
    exec .safeStopAssertion s = .next (assertSafe { s with levels := { s.levels with safeStop := true } }) :=
  if_neg (by simp [h, hl])

/-- Settles O27: the safety input. -/
theorem safeInput : Obligations.SafeInput := by
  intro s h
  refine ⟨fun hl hsafe => ?_, fun hl hsafe => ?_, fun hl => if_neg (by simp [h, hl])⟩
  case refine_2 =>
    exact (safeStop_asserted h hl).trans (congrArg Host.Outcome.next (if_pos hsafe))
  let w : State := raise .safeStop { s with levels := { s.levels with safeStop := true } }
  have hw : w.run.causes.safe = false := hsafe
  have raised : Delivered (fun n => n = .safeStop) s w := (delivered_raise .safeStop _).congr (fun _ => Iff.rfl) rfl rfl
  obtain ⟨left, run, excursion, zones, unwind⟩ := safeTaken_left hw
  obtain ⟨entered, within⟩ := safeRun_left w
  have closed (z : ZoneId) : (safeTaken w).heat.zones.get z = closedAt s.lineTime (s.heat.zones.get z) ∧
      ((safeTaken w).heat.zones.get z).supplyOut = false := by
    rw [zones z]
    exact ⟨rfl, supplyOut_closedAt _ _⟩
  have ofEntered (he : s.run.state ≠ .halted) : (safeTaken w).feed.excursion = 0 := excursion.trans (if_neg he)
  have ofWithin (he : ¬s.run.state ≠ .halted) : (safeTaken w).feed.excursion = s.feed.excursion :=
    excursion.trans (if_pos (not_not.mp he))
  refine ⟨addSafe w, safeStop_asserted h hl, ?_⟩
  dsimp only
  by_cases hp : s.unwind.splice.inProgress = true
  · obtain ⟨taken, delivered⟩ := safeUnwind_left (s := w) hw hp
    have notices := (raised.trans delivered).congr (s' := s) (t' := addSafe w) (Q := fun n =>
      n = .safeStop ∨ n = .halted ∨ (n = .spliceFailed ∧ s.unwind.splice.inProgress = true)) (by simp [hp]) rfl rfl
    generalize (addSafe w).notices = n at taken
    rw [taken] at notices ⊢
    refine ⟨?_, safeRun_halted w, fun _ => ?_, fun hf => absurd hp hf, fun he => ⟨(entered he).1, (entered he).2, ofEntered he⟩,
      fun he => ⟨(within (not_not.mp he)).1, (within (not_not.mp he)).2, ofWithin he⟩, closed, fun _ => rfl,
      fun new hn => spliceFailed_roll (joining_of_inProgress hn).2, fun hf => absurd hp hf, fun hf => absurd hp hf, notices⟩
    · rw [left]
      rfl
    · exact congrArg (fun c => c.add .spliceFail) (safeRun_causes w)
  · have stands : addSafe w = safeTaken w := by
      rw [addSafe_of_new hw, safeUnwind_of_not_inProgress]
      rw [safeTaken_inProgress hw]
      exact Bool.eq_false_of_not_eq_true hp
    rw [stands]
    refine ⟨?_, ?_, fun hf => absurd hf hp, fun _ => ?_, fun he => ⟨?_, ?_, ofEntered he⟩, fun he => ⟨?_, ?_, ofWithin he⟩,
      closed, fun hf => absurd hf hp, fun new hn => absurd (joining_of_inProgress hn).1 hp, fun _ he => ?_, fun _ he => ?_, ?_⟩
    · rw [left]
      rfl
    · rw [run, safeRun_halted]
    · rw [run, safeRun_causes]
      rfl
    · exact (congrArg RunControl.haltEntry run).trans (entered he).1
    · exact (congrArg RunControl.lastChange run).trans (entered he).2
    · exact (congrArg RunControl.haltEntry run).trans (within (not_not.mp he)).1
    · exact (congrArg RunControl.lastChange run).trans (within (not_not.mp he)).2
    · exact unwind.trans (congrArg (fun sp => { s.unwind with splice := sp }) (if_neg he))
    · exact unwind.trans (congrArg (fun sp => { s.unwind with splice := sp }) (if_pos (not_not.mp he)))
    · exact (raised.trans (delivered_raise .halted w)).congr (by simp [hp]) rfl (by rw [left])

end Sys2Proof.Machine

/-!
The settings of the tracking and of the head, and the planner's arithmetic (O16, O22, O23, O26).
-/

namespace Sys2Proof.Machine

/-! ## SET_TRACKING (R15, R16) -/

theorem planned_iff (s : State) :
    planned s = true ↔ s.plan ≠ [] ∨ s.marks.list ≠ [] ∨ ∃ c ∈ s.planner.contexts, c.planning.isSome = true := by
  rw [planned, Bool.or_eq_true, isSome_planningCopy]
  simp [Option.isSome_iff_ne_none, or_assoc]

/-- The ranges of 1.8 (R15). -/
theorem trackingValid_iff (t : TrackingSettings) (zones : PerZone Zone) :
    t.valid zones = true ↔
      (1000 ≤ t.feedTick ∧ t.feedTick ≤ 50000) ∧ t.markOffset ≤ 200000 ∧ (1 ≤ t.markWidthMin ∧ t.markWidthMin ≤ 20000) ∧
        (t.markWidthMin ≤ t.markWidthMax ∧ t.markWidthMax ≤ 20000) ∧ t.reverseTolerance ≤ 100000 ∧
        (100 ≤ t.standstillMs ∧ t.standstillMs ≤ 5000) ∧ (1000 ≤ t.exitDistance ∧ t.exitDistance ≤ 16000000) ∧
        (1000 ≤ t.cutDwell ∧ t.cutDwell ≤ 500000) ∧ ∀ z : ZoneId, (zones.get z).bound ≤ t.exitDistance := by
  have every (P : ZoneId → Prop) : (∀ z, P z) ↔ P .z1 ∧ P .z2 ∧ P .z3 ∧ P .z4 :=
    ⟨fun h => ⟨h _, h _, h _, h _⟩, fun ⟨h1, h2, h3, h4⟩ z => by cases z <;> assumption⟩
  simp only [TrackingSettings.valid, inRange, Bool.and_eq_true, decide_eq_true_eq, Nat.zero_le, true_and, and_assoc, every,
    PerZone.get]

/-- Settles O16: SET_TRACKING with its checks. -/
theorem setTrackingTaken : Obligations.SetTrackingTaken := by
  intro s l r h
  have rule : ruleSetTracking l r.args (grant l s) =
      if !atRest s then .refused .state
      else if planned s then .refused .state
      else if !(trackingSettingsOf r.args).valid s.heat.zones then .refused .range
      else .granted (settleStandstill { grant l s with tracking := trackingSettingsOf r.args }) [] := rfl
  refine ⟨fun hp => taken_refused h ?_, fun hp hplan hmarks hcontexts => ?_⟩
  · rw [rule]
    rcases hp with hp | hp
    · exact if_pos (by simp [atRest_eq, hp])
    · rw [if_pos ((planned_iff s).mpr hp), ite_self]
  have free : ¬planned s = true := by
    rw [planned_iff]
    simpa [hplan, hmarks] using hcontexts
  rw [if_neg (by simp [atRest_eq, hp]), if_neg free] at rule
  have valid := trackingValid_iff (trackingSettingsOf r.args) s.heat.zones
  refine ⟨fun hn => taken_refused h (rule.trans (if_pos ?_)), fun hl =>
    ⟨_, taken_granted h (rule.trans (if_neg ?_)), rfl, rfl, rfl, rfl⟩⟩
  · rw [Bool.not_eq_true', ← Bool.not_eq_true, valid]
    exact hn
  · rw [Bool.not_eq_true', Bool.not_eq_false, valid]
    exact hl

/-! ## SET_HEAD (R89) -/

theorem strictlyRising_iff (l : List Nat) : strictlyRising l = true ↔ l.Pairwise (· < ·) := by
  rw [← List.isChain_iff_pairwise]
  induction l with
  | nil => simp [strictlyRising]
  | cons a rest ih =>
    cases rest with
    | nil => simp [strictlyRising]
    | cons b rest => simp [strictlyRising, List.isChain_cons_cons, ih]

/-- The ranges of 5.7, code by code (R89). -/
theorem headValid_iff (gap dwell : Nat) (depth : Fin 16 → Nat) :
    HeadSetup.valid ⟨gap, dwell, Vector.ofFn depth⟩ = true ↔
      (200 ≤ gap ∧ gap ≤ 20000) ∧ (1000 ≤ dwell ∧ dwell ≤ 100000) ∧ (∀ c, depth c ≤ 60000) ∧
        ∀ c c' : Fin 16, c < c' → depth c < depth c' := by
  have depths : (Vector.ofFn depth).toList = List.ofFn depth := by simp [Vector.toList, List.ofFn]
  rw [HeadSetup.valid, depths, Bool.and_eq_true, strictlyRising_iff, List.pairwise_ofFn]
  simp only [List.all_eq_true, List.forall_mem_ofFn_iff, Bool.and_eq_true, inRange, decide_eq_true_eq, and_assoc]

/-- Settles O26: SET_HEAD with its checks, and the ceiling under the new setup. -/
theorem setHeadTaken : Obligations.SetHeadTaken := by
  intro s l r h
  have valid := headValid_iff (field r.args 0 2) (field r.args 2 3) (fun c => field r.args (5 + 2 * c.val) 2)
  have rule : ruleSetHead l r.args (grant l s) =
      if !atRest s then .refused .state
      else if !(headSetupOf r.args).valid then .refused .range
      else .granted (refreshCeiling { grant l s with head := { s.head with setup := headSetupOf r.args } }) [] := rfl
  refine ⟨fun hp => taken_refused h (rule.trans (if_pos (by simp [atRest_eq, hp]))), fun hp hn => taken_refused h ?_,
    fun hp hl => ⟨ceilingOf (ceilingPositions s) (headSetupOf r.args), ?_, taken_granted h (rule.trans ?_)⟩⟩
  · rw [rule, if_neg (by simp [atRest_eq, hp])]
    refine if_pos ?_
    rw [Bool.not_eq_true', ← Bool.not_eq_true]
    exact fun hv => hn (valid.mp hv)
  · exact isCeiling_ceilingOf _ (headSetupOf r.args)
  · rw [if_neg (by simp [atRest_eq, hp]), if_neg]
    · rw [← ceilingPositions_eq]
      rfl
    · rw [Bool.not_eq_true', Bool.not_eq_false]
      exact valid.mpr hl

/-! ## The planner's arithmetic (R48 to R51) -/

/-- Settles O22: each take's quotient and remainder are those of one division, so the sum telescopes. -/
theorem takesAreExact : Obligations.TakesAreExact := by
  intro st shrink k q n r hq hr
  have pos : 0 < 10000 * 65536 * q := by omega
  induction n with
  | zero => simpa [takesInRow] using hr
  | succ n ih =>
    obtain ⟨sum, below⟩ := ih
    have division := Nat.div_add_mod' (takeNumerator st shrink k + (takesInRow st shrink k q n r).2) (takeDenominator q)
    refine ⟨?_, Nat.mod_lt _ pos⟩
    change (_ + _ / takeDenominator q) * takeDenominator q + _ % takeDenominator q = _
    rw [add_mul, add_assoc, division, add_comm (takeNumerator st shrink k), ← add_assoc, add_mul n 1, one_mul, add_right_comm (n * _)]
    exact congrArg (· + takeNumerator st shrink k) sum

/-- The first depth that suffices, if there is one. -/
theorem findIdx_depth (table : Vector Nat 16) (depth : Nat) (i : Nat) :
    table.toList.findIdx? (fun d => depth ≤ d) = some i ↔
      ∃ h : i < 16, depth ≤ table[i] ∧ ∀ j (hj : j < i), table[j] < depth := by
  rw [List.findIdx?_eq_some_iff_getElem]
  simp

/-- Settles O23: the code is the first index whose depth suffices. -/
theorem strokeCodeIsSmallest : Obligations.StrokeCodeIsSmallest := by
  intro table depth
  refine ⟨fun h => ?_, fun h => ?_⟩
  · cases hf : table.toList.findIdx? (fun d => depth ≤ d) with
    | none =>
      have := List.findIdx?_eq_none_iff.mp hf table[15] (by simp)
      simp [h] at this
    | some i =>
      obtain ⟨hi, deep, smaller⟩ := (findIdx_depth table depth i).mp hf
      exact ⟨⟨i, hi⟩, by rw [strokeCode, hf]; rfl, deep, fun j hj => smaller j.val hj⟩
  · have none_ : table.toList.findIdx? (fun d => depth ≤ d) = none := by
      rw [Option.eq_none_iff_forall_ne_some]
      intro i hi
      obtain ⟨hi, deep, _⟩ := (findIdx_depth table depth i).mp hi
      exact absurd (h ⟨i, hi⟩) (Nat.not_lt.mpr deep)
    rw [strokeCode, none_]
    rfl

end Sys2Proof.Machine

/-!
The head at the plan and in the blade cycle (O24, O25).
-/

namespace Sys2Proof.Machine

/-! ## Records on segments (R81, R111) -/

theorem recordedOn_of_none {n : Serial} {s : State} (f : Segment → Segment) (h : segmentOf n s = none) :
    recordedOn n f s.map = s.map := by
  have none_ : ∀ g ∈ s.map.segments, ¬g.serial = n := by simpa [segmentOf] using h
  have stands : s.map.segments.map (fun g => if g.serial = n then f g else g) = s.map.segments :=
    (List.map_congr_left fun g hg => if_neg (none_ g hg)).trans (List.map_id _)
  rw [recordedOn, stands]

/-! ## A fold fires (R78, R80) -/

/-- The head after a fold has fired. -/
def headFired (n : Serial) (pos : Nat) (w h : StrokeCode) (s : State) : Head :=
  { s.head with
    strokeW := w, strokeH := h, clamp := false, inCycle := some ⟨n, pos⟩, lastFired := some pos, pendingFold := none
    cycle := .opening ⟨s.lineTime, s.head.setup.gap⟩ }

theorem fireFold_onTime {n : Serial} {pos : Nat} {w h : StrokeCode} {s : State}
    (hl : ∀ g, segmentOf n s = some g → s.feed.position - pos ≤ g.lagLimit) :
    fireFold n pos w h s = { s with head := headFired n pos w h s, map := recordedOn n foldFired s.map } := by
  rw [fireFold]
  cases hg : segmentOf n s with
  | none => rfl
  | some g => exact if_neg (Nat.not_lt.mpr (hl g hg))

theorem fireFold_late {n : Serial} {pos : Nat} {w h : StrokeCode} {s : State} {g : Segment} (hg : segmentOf n s = some g)
    (hl : g.lagLimit < s.feed.position - pos) :
    fireFold n pos w h s =
      { s with
        head := headFired n pos w h s, map := recordedOn n foldLate s.map, notices := (raise .lateFold s).notices } := by
  have records : recordedOn n (fun g => { g with late := countTo 65535 g.late, flags := g.flags.add .lateFold })
      (recordedOn n foldFired s.map) = recordedOn n foldLate s.map := by
    simp only [recordedOn, List.map_map]
    congr 2
    funext g
    by_cases h : g.serial = n <;> simp [h, foldFired, foldLate, PanelFlags.add]
  rw [fireFold, ← records]
  dsimp only
  rw [hg]
  exact if_pos hl

theorem fireFold_parts (n : Serial) (pos : Nat) (w h : StrokeCode) (s : State) :
    fireFold n pos w h s =
      { s with
        head := headFired n pos w h s, map := (fireFold n pos w h s).map, notices := (fireFold n pos w h s).notices } := by
  by_cases hl : ∃ g, segmentOf n s = some g ∧ g.lagLimit < s.feed.position - pos
  · obtain ⟨g, hg, hl⟩ := hl
    rw [fireFold_late hg hl]
  · rw [fireFold_onTime fun g hg => Nat.not_lt.mp fun h => hl ⟨g, hg, h⟩]

theorem fireFold_head (n : Serial) (pos : Nat) (w h : StrokeCode) (s : State) :
    (fireFold n pos w h s).head = headFired n pos w h s := by
  rw [fireFold_parts]

theorem refreshHead_pendingFold (s : State) : (refreshHead s).head.pendingFold = s.head.pendingFold := by
  rw [(refreshed_refreshHead s).1]

theorem isIdle_false {c : BladeCycle} (h : c ≠ .idle) : c.isIdle = false :=
  Bool.eq_false_of_not_eq_true fun hc => h ((isIdle_iff c).mp hc)

/-! ## The end of a drain (R98) -/

theorem reportDrain_of_complete {s : State} (h : s.run.state = .draining ∧ s.plan = [] ∧
    (∀ c ∈ s.planner.contexts, c.planning = none) ∧ s.head.pendingFold = none) :
    reportDrain s =
      { s with
        run := { s.run with state := .stopped, lastChange := s.lineTime }, feed := { s.feed with excursion := 0 }
        notices := (raise .drained s).notices } := by
  obtain ⟨hs, hplan, hctx, hpend⟩ := h
  rw [reportDrain, if_pos ⟨hs, (drainComplete_iff s).mpr ⟨hplan, hctx, hpend⟩⟩, enterStopped_of_none hpend]
  rfl

theorem reportDrain_of_incomplete {s : State} (h : ¬(s.run.state = .draining ∧ s.plan = [] ∧
    (∀ c ∈ s.planner.contexts, c.planning = none) ∧ s.head.pendingFold = none)) : reportDrain s = s :=
  if_neg fun ⟨hs, hc⟩ => h ⟨hs, (drainComplete_iff s).mp hc⟩

/-! ## The blade cycle (R79) -/

/-- Settles O24: each expiry's own guard holds; at the end of the closing gap a pending fold fires. -/
theorem bladeCycle : Obligations.BladeCycle := by
  intro s hr
  refine ⟨fun g hc hd => if_neg (by simp [hr, openingGapDue, hc, Timer.expired, hd]),
    fun g hc hd => if_neg (by simp [hr, dwellDue, hc, Timer.expired, hd]), fun g hc hd hp => ?_, fun hc hs hcl hd => ?_,
    fun g p hc hd hp => ?_⟩
  · have due : exec .closingGapEnd s = .next (endClosingGap s) := if_neg (by simp [hr, closingGapDue, hc, Timer.expired, hd])
    rw [due, endClosingGap, hp]
    dsimp only
    cases hs : s.run.causes.safe with
    | false => exact congrArg Host.Outcome.next (presentLatch_settleClamp_idle rfl hs)
    | true => simp [settleClamp, clampDue, presentLatch, hs]
  · have clamp : clampDue s = true := by simp [clampDue, hc, hs, BladeCycle.isIdle, Timer.expired, hd]
    exact (if_neg (by simp [hr, clampGapDue, clamp, hcl])).trans (congrArg Host.Outcome.next (if_pos clamp))
  · have due : exec .closingGapEnd s = .next (endClosingGap s) := if_neg (by simp [hr, closingGapDue, hc, Timer.expired, hd])
    let u := fireFold p.serial p.position p.waist p.hem s
    have pending : (refreshHead u).head.pendingFold = none := by
      rw [refreshHead_pendingFold, fireFold_head]
      rfl
    rw [due, endClosingGap, hp]
    dsimp only
    refine ⟨u, refreshHead u, _, rfl, fun ⟨g, hg, hl⟩ => fireFold_late hg hl, fun hn => fireFold_onTime ?_,
      refreshed_refreshHead u, fun ⟨hs, hplan, hctx⟩ => ?_, fun hn => ?_⟩
    · exact fun g hg => Nat.not_lt.mp fun hl => hn ⟨g, hg, hl⟩
    · rw [reportDrain_of_complete ⟨by simpa [u] using hs, by simpa [u] using hplan, by simpa [u] using hctx, pending⟩]
      simp [u]
    · refine reportDrain_of_incomplete fun ⟨hs, hplan, hctx, _⟩ => hn ⟨?_, ?_, ?_⟩
      · simpa [u] using hs
      · simpa [u] using hplan
      · simpa [u] using hctx

/-! ## The four kinds of plan entry (R74 to R77) -/

theorem recordedOn_comm {f g : Segment → Segment} (h : ∀ x, f (g x) = g (f x)) (hf : ∀ x, (f x).serial = x.serial)
    (hg : ∀ x, (g x).serial = x.serial) (m n : Serial) (w : WebMap) :
    recordedOn m f (recordedOn n g w) = recordedOn n g (recordedOn m f w) := by
  simp only [recordedOn, List.map_map]
  congr 2
  funext x
  simp only [Function.comp_apply, apply_ite Segment.serial, hf, hg, ite_self]
  by_cases hm : x.serial = m
  · by_cases hn : x.serial = n
    · rw [if_pos hm, if_pos hn, if_pos hn, if_pos hm, h]
    · rw [if_pos hm, if_neg hn, if_neg hn, if_pos hm]
  · rw [if_neg hm, if_neg hm]

/-- A pending fold missed and a fold in cycle aborted are two records that do not touch one another (R81, R84). -/
theorem foldsLost_missPending (s : State) : foldsLost (missPending s) = foldsLost s := by
  rw [missPending_eq]
  unfold foldsLost
  have order (m n : Serial) := recordedOn_comm (f := foldAborted) (g := foldMissed) (fun _ => rfl) (fun _ => rfl) (fun _ => rfl)
    m n s.map
  cases s.head.pendingFold <;> cases s.head.cycle <;> cases s.head.inCycle <;> simp [order]

theorem headHalted_missPending (s : State) : headHalted (missPending s) = headHalted s := by
  rw [missPending_eq]
  unfold headHalted
  cases s.head.cycle <;> rfl

theorem haltEntered_missPending (c : Cause) (s : State) : haltEntered c (missPending s) = haltEntered c s := by
  unfold haltEntered
  rw [foldsLost_missPending, headHalted_missPending]
  simp [missPending_eq, raise]

theorem run_of_producing {s : State} (h : producing s = true) : s.run.state ≠ .halted := fun hs => by
  simp [producing, hs] at h

/-- A fold reached with another pending: OVERRUN, and both are missed (R75, R81). -/
theorem reachFold_overrun {s : State} {q : PendingFold} (hp : producing s = true) (hc : s.head.cycle ≠ .idle)
    (hq : s.head.pendingFold = some q) (ho : s.run.causes.overrun = false) (n : Serial) (pos : Nat) (w h : StrokeCode) :
    reachFold n pos w h s =
      { haltEntered .overrun { s with head := { s.head with region := .folding } } with
        map := recordedOn n foldMissed (foldsLost s) } := by
  let t : State := { s with head := { s.head with region := .folding } }
  have overrun : addCause .overrun (missPending t) = haltEntered .overrun t := by
    rw [addCause_eq _ _ (by decide), causeAdded, if_neg, if_neg, haltEntered_missPending]
    · simpa [t] using run_of_producing hp
    · simp [t, CauseSet.has, ho]
  rw [reachFold]
  dsimp only
  rw [if_pos hp, if_neg (by simp [isIdle_false hc])]
  split
  case h_1 hn => cases hq.symm.trans hn
  case h_2 => exact congrArg (missFold n) overrun

/-- A fold reached while the line produces and the cycle is IDLE fires (R75). -/
theorem reachFold_fires {s : State} (hp : producing s = true) (hc : s.head.cycle = .idle) (n : Serial) (pos : Nat)
    (w h : StrokeCode) :
    reachFold n pos w h s = fireFold n pos w h { s with head := { s.head with region := .folding } } := by
  rw [reachFold]
  dsimp only
  rw [if_pos hp, if_pos (by simp [hc, BladeCycle.isIdle])]

theorem reachFold_pends {s : State} (hp : producing s = true) (hc : s.head.cycle ≠ .idle) (hq : s.head.pendingFold = none)
    (n : Serial) (pos : Nat) (w h : StrokeCode) :
    reachFold n pos w h s =
      { s with head := { s.head with region := .folding, pendingFold := some ⟨n, pos, w, h, s.feed.position⟩ } } := by
  rw [reachFold]
  dsimp only
  rw [if_pos hp, if_neg (by simp [isIdle_false hc])]
  split
  case h_1 => rfl
  case h_2 q hs => cases hq.symm.trans hs

/-- A slot after one of its references is dropped (R25, R26). -/
theorem decRef_eq (sl : Slot) : sl.decRef = slotReleased 1 sl := by
  cases sl <;> simp [Slot.decRef, slotReleased]

theorem onLastRef_iff (sl : Slot) : sl.onLastRef = true ↔ sl.number = 3 ∧ sl.refs ≤ 1 := by
  cases sl <;> simp [Slot.onLastRef, Slot.number, Slot.refs]

/-- The slots after one reference is dropped (R25, R26). -/
theorem dropRef_slots (j : Fin 16) (s : State) (i : Fin 16) :
    (dropRef j s).slots[i] = if i = j then slotReleased 1 s.slots[i] else s.slots[i] := by
  have slots : (dropRef j s).slots = s.slots.set j s.slots[j].decRef := by
    unfold dropRef
    dsimp only
    split <;> rfl
  rw [slots]
  by_cases h : i = j
  · subst h
    simp [decRef_eq]
  · have : (j : Nat) ≠ i := fun hj => h (Fin.ext hj.symm)
    simp [h, Vector.getElem_set_ne _ _ this]

/-- The notices after one reference is dropped: PATTERN_RELEASED exactly when a RETIRING slot empties (R26). -/
theorem dropRef_notices (j : Fin 16) (s : State) :
    (dropRef j s).notices =
      if s.slots[j].number = 3 ∧ s.slots[j].refs ≤ 1 then (raise .patternReleased s).notices else s.notices := by
  have released := onLastRef_iff s.slots[j]
  unfold dropRef
  dsimp only
  by_cases h : s.slots[j].onLastRef = true
  · rw [if_pos h, if_pos (released.mp h)]
    rfl
  · rw [if_neg h, if_neg (mt released.mpr h)]

theorem dropRef_parts (j : Fin 16) (s : State) :
    dropRef j s = { s with slots := (dropRef j s).slots, notices := (dropRef j s).notices } := by
  unfold dropRef
  dsimp only
  split <;> rfl

/-- A context freed: its place released and its reference dropped (R42). -/
theorem freeContext_of_some {n : Serial} {s : State} {c : Context}
    (h : s.planner.contexts.find? (fun x => x.serial = n) = some c) :
    freeContext n s =
      dropRef c.slot
        { s with planner := { s.planner with contexts := s.planner.contexts.eraseP (fun x => x.serial = n) } } := by
  rw [freeContext, contextOf, h]

/-- The segment that a PANEL_START opens, and what becomes of its copy's context (R74, R42). -/
theorem openPanel_left {n : Serial} {s : State} {c : Context}
    (hc : s.planner.contexts.find? (fun x => x.serial = n) = some c) :
    let t := openPanel n s
    t = { s with map := t.map, head := { s.head with region := .folding }, planner := t.planner, slots := t.slots
                 notices := t.notices } ∧
      t.map =
        { s.map with
          segments := s.map.segments ++ [newSegment c s.carrier.position], started := s.map.started + 1 } ∧
      (c.planning ≠ none → t.slots = s.slots ∧ t.notices = s.notices ∧
        t.planner =
          { s.planner with
            contexts := s.planner.contexts.map (fun x => if x.serial = n then { x with startConsumed := true } else x) }) ∧
      (c.planning = none →
        t.planner = { s.planner with contexts := s.planner.contexts.eraseP (fun x => x.serial = n) } ∧
        (∀ i : Fin 16, t.slots[i] = if i = c.slot then slotReleased 1 s.slots[i] else s.slots[i]) ∧
        t.notices =
          (if s.slots[c.slot].number = 3 ∧ s.slots[c.slot].refs ≤ 1 then (raise .patternReleased s).notices
            else s.notices)) := by
  let opened : State :=
    { s with
      map := { s.map with
        segments := s.map.segments ++ [newSegment c s.carrier.position], started := s.map.started + 1 }
      head := { s.head with region := .folding } }
  intro t
  have taken : t =
      if c.planning.isNone then freeContext n opened
      else
        { opened with
          planner := { s.planner with
            contexts := s.planner.contexts.map (fun x => if x.serial = n then { x with startConsumed := true } else x) } } := by
    simp only [t, openPanel, contextOf, hc]
    rfl
  rw [taken]
  by_cases hp : c.planning = none
  · rw [if_pos (by simp [hp]), freeContext_of_some (s := opened) hc]
    refine ⟨?_, by simp [opened], fun hn => absurd hp hn, fun _ =>
      ⟨congrArg State.planner (dropRef_parts _ _), dropRef_slots _ _, dropRef_notices _ _⟩⟩
    rw [dropRef_parts]
  · rw [if_neg (by simp [hp])]
    exact ⟨rfl, rfl, fun _ => ⟨rfl, rfl, rfl⟩, fun hn => absurd hn hp⟩

/-- The segment that a PANEL_END closes, and a drain that it completes (R77, R98, R115). -/
theorem closePanel_left (n : Serial) (s : State) :
    let complete : Prop :=
      s.run.state = .draining ∧ s.plan = [] ∧ (∀ c ∈ s.planner.contexts, c.planning = none) ∧ s.head.pendingFold = none
    let closed : WebMap :=
      { s.map with
        segments := s.map.segments.map (fun g =>
          if g.serial = n ∧ g.trailing = none then { g with trailing := some s.carrier.position } else g) }
    (¬complete → closePanel n s = { s with map := closed, head := { s.head with region := .folding } }) ∧
      (complete →
        closePanel n s = { s with
              map := closed
              head := { s.head with region := .folding }
              run := { s.run with state := .stopped, lastChange := s.lineTime }
              feed := { s.feed with excursion := 0 }
              notices := (raise .drained s).notices }) := by
  intro complete closed
  have closes : onSegment n (fun g => if g.trailing.isNone then { g with trailing := some s.carrier.position } else g)
      { s with head := { s.head with region := .folding } } =
      { s with map := closed, head := { s.head with region := .folding } } := by
    have each (g : Segment) :
        (if g.serial = n then if g.trailing.isNone then { g with trailing := some s.carrier.position } else g else g) =
          if g.serial = n ∧ g.trailing = none then { g with trailing := some s.carrier.position } else g := by
      by_cases hn : g.serial = n <;> by_cases ht : g.trailing = none <;> simp [hn, ht]
    simp only [onSegment, each]
    rfl
  rw [closePanel, closes]
  exact ⟨fun h => reportDrain_of_incomplete h, fun h => reportDrain_of_complete h⟩

/-- The head with one entry of the plan reached: it is consumed, or held where the map is full (R73, R74). -/
theorem headEvent_one {s : State} {e : PlanEntry} {rest : List PlanEntry} (hp : s.plan = e :: rest)
    (he : e.position ≤ s.feed.position) (hrest : NoEntryReached s.feed.position rest) :
    headEvent s =
      if e.kind = .panelStart ∧ 24 ≤ s.map.segments.length then causeAdded .mapFull s
      else consumed e { s with plan := rest } := by
  rw [headEvent, hp, List.length_cons, consume_succ _ s e rest hp he, addCause_eq _ _ (by decide)]
  split
  · rfl
  · rw [consume_of_not_reached]
    exact headReached_of_none _ (by simpa using hrest)

/-- A forward tick that misses no mark and reaches no splice position has the head alone take the feed position (R5). -/
theorem exec_forwardTick_head {a b : Bool} {s : State} (h : ForwardTick a b s)
    (hm : NoMarkMissed (s.feed.position + 1) s s.marks.list) (hu : NoSplicePointReached (s.feed.position + 1) s.unwind) :
    exec (.feedEncoderChange a b) s = .next (headEvent (forwardTicked a b s)) := by
  rw [exec_forwardTick a b s h hm, unwindReached_of_none (forwardTicked a b s) hu]
  cases hr : headReached (forwardTicked a b s)
  · rw [headEvent_of_not_reached _ hr]
    rfl
  · rfl

/-- Settles O25: the four kinds of plan entry, and a forward tick that reaches them. -/
theorem entriesReached : Obligations.EntriesReached := by
  refine ⟨fun s n pos w h => ⟨fun hp hc => ?_, fun hp hc hq => reachFold_pends hp hc hq n pos w h,
    fun q hp hc hq ho => reachFold_overrun hp hc hq ho n pos w h, fun hp => reachFold_at_rest n pos w h s hp⟩,
    fun s n c hc => openPanel_left hc, fun s n => closePanel_left n s, fun a b s e rest h hplan he hrest hm hu => ?_,
    fun a b s h hm hu => ⟨_, exec_forwardTick_head h hm hu, consumes_headEvent _⟩, refreshed_refreshHead⟩
  · let t : State := { s with head := { s.head with region := .folding } }
    rw [reachFold_fires hp hc]
    refine ⟨?_, fireFold_head .., fun g hg hl => ?_, fun g hg hl => ?_, fun hn => ?_⟩
    · rw [fireFold_parts]
    · rw [fireFold_onTime (fun x hx => by cases hg.symm.trans hx; exact hl)]
      exact ⟨rfl, rfl⟩
    · rw [fireFold_late (s := t) hg hl]
      exact ⟨rfl, rfl⟩
    · rw [fireFold_onTime (fun x hx => by cases hn.symm.trans hx)]
      exact ⟨recordedOn_of_none _ hn, rfl⟩
  · have one := headEvent_one (s := forwardTicked a b s) hplan he hrest
    rw [exec_forwardTick_head h hm hu, one]
    refine ⟨fun w h hk => ?_, fun hk hl => ?_, fun hk hl => ?_, fun len ok hk => ?_, fun hk => ?_⟩
    · rw [if_neg (by simp [hk]), consumed, hk]
    · rw [if_neg (fun hf => absurd hf.2 (Nat.not_le.mpr hl)), consumed, hk]
    · rw [if_pos ⟨hk, hl⟩]
    · rw [if_neg (by simp [hk]), consumed, hk]
    · rw [if_neg (by simp [hk]), consumed, hk]

end Sys2Proof.Machine

/-!
What the visits of one tick keep, and the encoder and carrier ticks (O10, O11, O14, O15).
-/

namespace Sys2Proof.Machine

/-! ## What the visits of one tick keep -/

/-- What the visits of one tick keep: the feed's record but for an excursion set to 0, the open interval and measurement, the
causes of the set, and HALTED, entered with an excursion of 0. -/
structure VisitKept (s t : State) : Prop where
  feed : t.feed = s.feed ∨ t.feed = { s.feed with excursion := 0 }
  interval : t.unwind.interval = s.unwind.interval
  measurement : t.marks.measurement = s.marks.measurement
  mono : ∀ c, s.run.causes.has c = true → t.run.causes.has c = true
  added : ∀ c, t.run.causes.has c = true → s.run.causes.has c = true ∨ t.run.state = .halted
  stays : s.run.state = .halted → t.run.state = .halted
  entered : t.run.state = .halted → s.run.state = .halted ∨ t.feed.excursion = 0

theorem VisitKept.of_run_eq {s t : State} (feed : t.feed = s.feed)
    (interval : t.unwind.interval = s.unwind.interval) (measurement : t.marks.measurement = s.marks.measurement)
    (run : t.run = s.run) : VisitKept s t :=
  ⟨.inl feed, interval, measurement, by rw [run]; exact fun _ h => h, by rw [run]; exact fun _ h => .inl h,
    by rw [run]; exact id, by rw [run]; exact .inl⟩

theorem VisitKept.refl (s : State) : VisitKept s s := .of_run_eq rfl rfl rfl rfl

theorem VisitKept.excursion {s t : State} (h : VisitKept s t) (he : s.feed.excursion = 0) : t.feed.excursion = 0 := by
  rcases h.feed with hf | hf <;> simp [hf, he]

theorem VisitKept.trans {s t u : State} (h : VisitKept s t) (k : VisitKept t u) : VisitKept s u where
  feed := by
    rcases h.feed with hf | hf <;> rcases k.feed with kf | kf <;> simp [hf, kf]
  interval := k.interval.trans h.interval
  measurement := k.measurement.trans h.measurement
  mono := fun c hc => k.mono c (h.mono c hc)
  added := fun c hc => by
    rcases k.added c hc with hc | hh
    · exact (h.added c hc).imp_right k.stays
    · exact .inr hh
  stays := fun hh => k.stays (h.stays hh)
  entered := fun hh => by
    rcases k.entered hh with hm | he
    · exact (h.entered hm).imp_right k.excursion
    · exact .inr he

/-! ## The visits, one by one -/

theorem visitKept_causeAdded (c : Cause) (s : State) : VisitKept s (causeAdded c s) := by
  by_cases hc : s.run.causes.has c = true
  · rw [causeAdded, if_pos hc]
    exact .refl s
  have add : ∀ d, s.run.causes.has d = true → (s.run.causes.add c).has d = true := fun d hd => by
    by_cases h : d = c
    · subst h; simp
    · rw [causeSet_has_add_other _ _ _ h, hd]
  by_cases hs : s.run.state = .halted
  · rw [causeAdded, if_neg hc, if_pos hs]
    exact ⟨.inl rfl, rfl, rfl, add, fun _ _ => .inr hs, fun _ => hs, fun _ => .inl hs⟩
  · rw [causeAdded, if_neg hc, if_neg hs]
    exact ⟨.inr rfl, rfl, rfl, add, fun _ _ => .inr rfl, fun _ => rfl, fun _ => .inr rfl⟩

theorem visitKept_addCause {c : Cause} (hc : c ≠ .safe) (s : State) : VisitKept s (addCause c s) := by
  rw [addCause_eq c s hc]
  exact visitKept_causeAdded c s

theorem visitKept_reportDrain (s : State) : VisitKept s (reportDrain s) := by
  by_cases h : s.run.state = .draining ∧ s.plan = [] ∧ (∀ c ∈ s.planner.contexts, c.planning = none) ∧ s.head.pendingFold = none
  · rw [reportDrain_of_complete h]
    refine ⟨.inr rfl, rfl, rfl, fun _ h => h, fun _ h => .inl h, fun hs => ?_, nofun⟩
    cases h.1.symm.trans hs
  · rw [reportDrain_of_incomplete h]
    exact .refl s

theorem visitKept_reachFold (n : Serial) (pos : Nat) (w h : StrokeCode) (s : State) : VisitKept s (reachFold n pos w h s) := by
  rw [reachFold]
  dsimp only
  by_cases hp : producing s = true
  · rw [if_pos hp]
    by_cases hc : s.head.cycle.isIdle = true
    · rw [if_pos hc]
      exact .of_run_eq (by simp) (by simp) (by simp) (by simp)
    · rw [if_neg hc]
      split
      · exact .of_run_eq rfl rfl rfl rfl
      · have missed (t : State) : VisitKept t (missFold n t) := .of_run_eq (by simp) (by simp) (by simp) (by simp)
        have pending : VisitKept s (missPending { s with head := { s.head with region := .folding } }) :=
          .of_run_eq (by simp) (by simp) (by simp) (by simp)
        exact (pending.trans (visitKept_addCause (by decide) _)).trans (missed _)
  · rw [if_neg hp]
    exact .of_run_eq (by simp) (by simp) (by simp) (by simp)

theorem visitKept_consumed (e : PlanEntry) (s : State) : VisitKept s (consumed e s) := by
  have refresh (t : State) : VisitKept t (refreshHead t) :=
    .of_run_eq (by simp) (by simp) (by simp) (by simp)
  unfold consumed
  refine .trans ?_ (refresh _)
  split
  case h_1 => exact .of_run_eq (by simp) (by simp) (by simp) (by simp)
  case h_2 => exact visitKept_reachFold ..
  case h_3 => exact .of_run_eq rfl rfl rfl rfl
  case h_4 =>
    rw [closePanel]
    refine .trans ?_ (visitKept_reportDrain _)
    exact .of_run_eq rfl rfl rfl rfl

theorem visitKept_consumes {s t : State} (h : Consumes s t) : VisitKept s t := by
  induction h with
  | short s _ => exact .refl s
  | held s e rest => exact visitKept_causeAdded .mapFull s
  | taken s t e rest _ _ _ _ ih =>
    have front : VisitKept s { s with plan := rest } := .of_run_eq rfl rfl rfl rfl
    exact (front.trans (visitKept_consumed e _)).trans ih

theorem visitKept_headEvent (s : State) : VisitKept s (headEvent s) := visitKept_consumes (consumes_headEvent s)

theorem visitKept_exits {s t : State} (h : Exits s t) : VisitKept s t := by
  induction h with
  | done s _ => exact .refl s
  | leaves s m t g rest p _ _ _ hc _ ih =>
    have left : VisitKept s (segmentLeft g rest s) := .of_run_eq rfl rfl rfl rfl
    exact (left.trans (visitKept_consumes hc)).trans ih

theorem visitKept_knifeCheck (s : State) : VisitKept s (knifeCheck s) := by
  refine .of_run_eq (by simp) ?_ (by simp) (by simp)
  unfold knifeCheck
  (repeat' split) <;> rfl

theorem visitKept_fireCheck (s : State) : VisitKept s (fireCheck s) := by
  refine .of_run_eq (by simp) ?_ (by simp) (by simp)
  unfold fireCheck
  (repeat' split) <;> try rfl
  exact (visitKept_knifeCheck _).interval

theorem visitKept_trySearch (s : State) : VisitKept s (trySearch s) := by
  refine .of_run_eq (by simp) ?_ (by simp) (by simp)
  rw [trySearch_unwind]

theorem visitKept_seamCheck (s : State) : VisitKept s (seamCheck s) := by
  cases hp : s.unwind.seam with
  | none =>
    rw [seamCheck_of_none hp]
    exact .refl s
  | some p =>
    by_cases hr : p ≤ s.feed.position
    · rw [seamCheck_of_reached hp hr]
      refine .trans ?_ (visitKept_trySearch _)
      exact .of_run_eq rfl rfl rfl rfl
    · rw [seamCheck_of_ahead hp (Nat.not_le.mp hr)]
      exact .refl s

theorem visitKept_unwindEvent (s : State) : VisitKept s (unwindEvent s) :=
  ((visitKept_fireCheck s).trans (visitKept_knifeCheck _)).trans (visitKept_seamCheck _)

/-- The parts of the state that no visit of a tick touches. -/
def TickFrame (s t : State) : Prop :=
  t.levels = s.levels ∧ t.lineTime = s.lineTime ∧ t.inReset = s.inReset ∧ t.resetCause = s.resetCause ∧
    t.carrier = s.carrier ∧ t.tracking = s.tracking ∧ t.orders = s.orders ∧ t.exitUnit = s.exitUnit ∧ t.heat = s.heat ∧
    t.links = s.links ∧ t.starvation = s.starvation ∧ t.capture = s.capture

/-! ## A feed tick (R2, R5) -/

/-- R1: the sequence decodes each of its rows to the row's tick. -/
theorem decodeTick_of_row {s : State} {a b : Bool} {d : Direction}
    (h : ((s.levels.feedA, s.levels.feedB), (a, b), d) ∈ encoderTable) :
    decodeTick s.levels.feedA s.levels.feedB a b = some d := by
  revert h
  generalize s.levels.feedA = x
  generalize s.levels.feedB = y
  cases d <;> revert x y a b <;> decide

/-- R1: a state that differs in both channels, or in neither, gives no tick. -/
theorem decodeTick_of_none {s : State} {a b : Bool}
    (h : (a = s.levels.feedA ∧ b = s.levels.feedB) ∨ (a ≠ s.levels.feedA ∧ b ≠ s.levels.feedB)) :
    decodeTick s.levels.feedA s.levels.feedB a b = none := by
  revert h
  generalize s.levels.feedA = x
  generalize s.levels.feedB = y
  revert x y a b
  decide

/-- The tick's own account: the Feed Tracker's, the Mark Unit's and the Unwind Unit's, before the visits (R2, R5). -/
def feedTicked (d : Direction) (s : State) : State :=
  let t := intervalTick d (markTick d { s with feed := s.feed.tick d (producing s) s.lineTime })
  if movePosition d s.feed.position != s.feed.position then judgeMisses t else t

/-- The cause that a tick adds (R4, R7). -/
def tickCause (d : Direction) (s : State) : Option Cause :=
  feedCause d (producing s) { s with feed := s.feed.tick d (producing s) s.lineTime }

/-- The visits that follow a tick's own account (R5). -/
def tickVisits (d : Direction) (s : State) : List (State → State) :=
  let u := feedTicked d s
  let moved := movePosition d s.feed.position != s.feed.position
  (match tickCause d s with
      | some c => [addCause c]
      | none => []) ++
    (if moved && headReached u then [headEvent] else []) ++ (if moved && unwindReached u then [unwindEvent] else [])

theorem exec_tick {s : State} {a b : Bool} {d : Direction} (hr : s.inReset = false)
    (h : ((s.levels.feedA, s.levels.feedB), (a, b), d) ∈ encoderTable) :
    exec (.feedEncoderChange a b) s =
      .next
        (let t : State := { s with levels := { s.levels with feedA := a, feedB := b } }
         runVisits (feedTicked d t) (tickVisits d t)) := by
  refine (if_neg (by simp [hr])).trans ?_
  dsimp only
  rw [decodeTick_of_row h]
  rfl

theorem judgeFront_measurement (n : Nat) (s : State) :
    (judgeFront n s).marks.measurement = s.marks.measurement := by
  have opened (t : State) : (frontOpened t).marks.measurement = t.marks.measurement := by
    unfold frontOpened
    (repeat' split) <;> rfl
  have missed (e : Expectation) (rest : List Expectation) (o : OutcomeRecord) (t : State) :
      (takeMiss e rest o t).marks.measurement = t.marks.measurement := by
    unfold takeMiss
    dsimp only
    split <;> simp
  induction n generalizing s with
  | zero => rfl
  | succ n ih =>
    unfold judgeFront
    split
    · rfl
    · split
      · rw [ih, opened, missed]
      · rfl

theorem markTick_measurement (d : Direction) (s : State) :
    (markTick d s).marks.measurement =
      s.marks.measurement.map (fun q =>
        match d with
        | .forward =>
          { q with
            width := q.width + 1
            spoiled := if q.spoiled = none ∧ s.tracking.markWidthMax < q.width + 1 then some .width else q.spoiled }
        | .reverse => { q with spoiled := if q.spoiled = none then some .reverse else q.spoiled }) := by
  unfold markTick
  cases hm : s.marks.measurement with
  | none => simpa using hm
  | some q =>
    dsimp only
    rw [apply_ite (fun t : State => t.marks.measurement), judgeMisses, judgeFront_measurement, ite_self]
    cases d <;> cases hq : q.spoiled <;> simp [hq]

theorem intervalTick_eq (d : Direction) (s : State) :
    intervalTick d s =
      { s with
        unwind := { s.unwind with
          interval := s.unwind.interval.map (fun i =>
            match d with
            | .forward => { i with n := if i.n ≤ 4194303 then i.n + 1 else i.n }
            | .reverse => { i with spoiled := true }) } } := by
  cases hi : s.unwind.interval with
  | none => simp only [intervalTick, hi, Option.map_none]; rw [← hi]
  | some i => simp only [intervalTick, hi, Option.map_some]; rfl

/-- The tick leaves the rest of the state to the visits, and of the parts it accounts for it leaves these (R2, R59, R156). -/
theorem feedTicked_left (d : Direction) (s : State) :
    let u := feedTicked d s
    TickFrame s u ∧ u.run = s.run ∧ u.feed = s.feed.tick d (producing s) s.lineTime ∧ u.plan = s.plan ∧
      u.marks.measurement =
        s.marks.measurement.map (fun q =>
          match d with
          | .forward =>
            { q with
              width := q.width + 1
              spoiled := if q.spoiled = none ∧ s.tracking.markWidthMax < q.width + 1 then some .width else q.spoiled }
          | .reverse => { q with spoiled := if q.spoiled = none then some .reverse else q.spoiled }) ∧
      u.unwind =
        { s.unwind with
          interval := s.unwind.interval.map (fun i =>
            match d with
            | .forward => { i with n := if i.n ≤ 4194303 then i.n + 1 else i.n }
            | .reverse => { i with spoiled := true }) } := by
  let t : State := markTick d { s with feed := s.feed.tick d (producing s) s.lineTime }
  have measurement := markTick_measurement d { s with feed := s.feed.tick d (producing s) s.lineTime }
  have account : feedTicked d s = intervalTick d t ∨ feedTicked d s = judgeMisses (intervalTick d t) := by
    unfold feedTicked
    dsimp only
    split
    · exact .inr rfl
    · exact .inl rfl
  rw [intervalTick_eq] at account
  dsimp only
  rcases account with h | h <;> rw [h]
  · exact ⟨by simp [TickFrame, t], by simp [t], by simp [t], by simp [t], measurement, by simp [t]⟩
  · refine ⟨by simp [TickFrame, t], by simp [t], by simp [t], by simp [t], ?_, by simp [t]⟩
    rw [judgeMisses, judgeFront_measurement]
    exact measurement

/-! ## Every visit takes its turn -/

/-- The free order leaves no visitor out (R5). -/
theorem arrange_perm {α : Type} (fuel n : Nat) (l : List α) (h : l.length ≤ fuel) : (arrange fuel n l).Perm l := by
  induction fuel generalizing n l with
  | zero => exact .refl _
  | succ fuel ih =>
    cases l with
    | nil => simp [arrange]
    | cons x xs =>
      have hlt : n % (x :: xs).length < (x :: xs).length := Nat.mod_lt _ (by simp)
      rw [arrange, List.getElem?_eq_getElem hlt]
      refine .trans (.cons _ (ih _ _ ?_)) (List.getElem_cons_eraseIdx_perm hlt)
      rw [List.length_eraseIdx_of_lt hlt]
      exact Nat.sub_le_of_le_add h

/-- A cause that one of the visits adds is in the set after all of them. -/
theorem runVisits_adds {c : Cause} {fs : List (State → State)} (hc : addCause c ∈ fs)
    (mono : ∀ f ∈ fs, ∀ t : State, t.run.causes.has c = true → (f t).run.causes.has c = true) (s : State) :
    (runVisits s fs).run.causes.has c = true := by
  have fold (gs : List (State → State)) (hg : ∀ f ∈ gs, f ∈ fs) (hin : addCause c ∈ gs) (t : State) :
      (gs.foldl (fun t f => f t) t).run.causes.has c = true := by
    obtain ⟨before, behind, rfl⟩ := List.append_of_mem hin
    rw [List.foldl_append, List.foldl_cons]
    exact foldl_keeps (fun t => t.run.causes.has c = true) behind (fun f hf => mono f (hg f (by simp [hf]))) _ (addCause_has c _)
  unfold runVisits
  split
  · cases hc
  · exact fold _ (fun _ hf => hf) hc s
  · have perm := arrange_perm fs.length (Config.freeOrder s.choices).toNat fs (Nat.le_refl _)
    exact fold _ (fun f hf => perm.mem_iff.mp hf) (perm.mem_iff.mpr hc) _

/-- Each visit of a tick is the addition of its cause, the head's or the Unwind Unit's. -/
theorem mem_tickVisits {d : Direction} {s : State} {f : State → State} (h : f ∈ tickVisits d s) :
    f = addCause .positionEnd ∨ f = addCause .reverse ∨ f = headEvent ∨ f = unwindEvent := by
  simp only [tickVisits, List.mem_append] at h
  rcases h with (h | h) | h
  · unfold tickCause feedCause at h
    cases d <;> dsimp only at h <;> split at h <;> simp_all
  · split at h <;> simp_all
  · split at h <;> simp_all

theorem visitKept_tickVisit {d : Direction} {s : State} {f : State → State} (h : f ∈ tickVisits d s) (t : State) :
    VisitKept t (f t) := by
  rcases mem_tickVisits h with rfl | rfl | rfl | rfl
  · exact visitKept_addCause (by decide) t
  · exact visitKept_addCause (by decide) t
  · exact visitKept_headEvent t
  · exact visitKept_unwindEvent t

theorem visitKept_visits (d : Direction) (s u : State) : VisitKept u (runVisits u (tickVisits d s)) :=
  runVisits_keeps (VisitKept u) _ (fun _ hf t ht => ht.trans (visitKept_tickVisit hf t)) u
    (.of_run_eq rfl rfl rfl rfl) (.refl u)

theorem tickFrame_visits (d : Direction) (s u : State) : TickFrame u (runVisits u (tickVisits d s)) := by
  refine runVisits_keeps (TickFrame u) _ (fun f hf t ht => ?_) u (by simp [TickFrame]) (by simp [TickFrame])
  rcases mem_tickVisits hf with rfl | rfl | rfl | rfl <;> simpa [TickFrame] using ht

/-- Settles O10: a tick's own account, of which the visits that follow leave these parts alone. -/
theorem encoderTicks : Obligations.EncoderTicks := by
  intro a b s hr
  refine ⟨fun h => ?_, fun d h => ?_⟩
  · refine (if_neg (by simp [hr])).trans ?_
    dsimp only
    rw [decodeTick_of_none h]
  · let w : State := { s with levels := { s.levels with feedA := a, feedB := b } }
    obtain ⟨frame, _, feed, _, measurement, unwind⟩ := feedTicked_left d w
    have kept := visitKept_visits d w (feedTicked d w)
    obtain ⟨l1, l2, l3, l4, l5, l6, l7, l8, l9, l10, l11, l12⟩ := tickFrame_visits d w (feedTicked d w)
    obtain ⟨f1, f2, f3, f4, f5, f6, f7, f8, f9, f10, f11, f12⟩ := frame
    refine ⟨runVisits (feedTicked d w) (tickVisits d w), exec_tick hr h, ?_⟩
    generalize runVisits (feedTicked d w) (tickVisits d w) = t at kept l1 l2 l3 l4 l5 l6 l7 l8 l9 l10 l11 l12
    have tracked : t.feed = { w.feed.tick d (producing w) w.lineTime with excursion := t.feed.excursion } := by
      rcases kept.feed with hf | hf <;> rw [hf, feed]
    have interval := kept.interval.trans (congrArg UnwindUnit.interval unwind)
    refine ⟨l1.trans f1, ?_, ?_, ?_, ?_, ?_, ?_, ?_, kept.measurement.trans measurement, fun i hi hn => ?_, fun hn => ?_,
      l2.trans f2, (l3.trans f3).trans hr, l4.trans f4, l5.trans f5, l6.trans f6, l7.trans f7, l8.trans f8, l9.trans f9,
      l10.trans f10, l11.trans f11, l12.trans f12⟩
    iterate 7 · rw [tracked]; cases d <;> rfl
    · rw [interval]
      cases d <;> simp [w, hi, hn]
    · rw [interval]
      simp [w, hn]

/-! ## The causes of a feed tick (R4, R6, R7) -/

/-- R7: a reverse tick counted while the line produces adds REVERSE exactly when the excursion passes the tolerance. -/
theorem tickCause_reverse {s : State} (hp : producing s = true) :
    tickCause .reverse s = if s.tracking.reverseTolerance < s.feed.excursion + 1 then some .reverse else none := by
  simp [tickCause, feedCause, FeedTracker.tick, hp]

/-- R4: a forward tick that brings the position to the end of its range, or finds it there, adds POSITION_END. -/
theorem tickCause_forward (s : State) :
    tickCause .forward s = if movePosition .forward s.feed.position = 2 ^ 40 - 1 then some .positionEnd else none := rfl

/-- A tick's cause, whatever the order of the visits: it joins the set, and the line is HALTED. -/
theorem halted_of_cause {d : Direction} {s : State} {c : Cause}
    (hf : tickCause d s = some c)
    (hn : s.run.causes.has c = false) :
    let t := runVisits (feedTicked d s) (tickVisits d s)
    t.run.state = .halted ∧ t.run.causes.has c = true ∧ (s.run.state ≠ .halted → t.feed.excursion = 0) := by
  obtain ⟨_, run, _⟩ := feedTicked_left d s
  have kept := visitKept_visits d s (feedTicked d s)
  have has := runVisits_adds (c := c) (fs := tickVisits d s) (by simp [tickVisits, hf])
    (fun f hm t => (visitKept_tickVisit hm t).mono c) (feedTicked d s)
  have halted := (kept.added c has).resolve_left (by rw [run, hn]; simp)
  exact ⟨halted, has, fun hs => (kept.entered halted).resolve_left (by rw [run]; exact hs)⟩

/-- With no plan entry reached and no cause due, the visits leave run control and the feed alone. -/
theorem visits_left {d : Direction} {s : State}
    (hf : tickCause d s = none)
    (hp : NoEntryReached (movePosition d s.feed.position) s.plan) :
    let t := runVisits (feedTicked d s) (tickVisits d s)
    t.run = s.run ∧ t.feed = s.feed.tick d (producing s) s.lineTime := by
  obtain ⟨_, run, feed, plan, _⟩ := feedTicked_left d s
  have short : headReached (feedTicked d s) = false := by
    apply headReached_of_none
    rw [plan, feed]
    exact hp
  have visits : tickVisits d s = [] ∨ tickVisits d s = [unwindEvent] := by
    cases hb : movePosition d s.feed.position != s.feed.position && unwindReached (feedTicked d s) <;>
      simp [tickVisits, hf, short, hb]
  rcases visits with h | h <;> rw [h]
  · exact ⟨run, feed⟩
  · simp [run, feed]

/-- A tick's account where the front expectation is not missed (R2, R59, R156). -/
theorem feedTicked_of_noMarkMissed {d : Direction} {s : State}
    (hm : NoMarkMissed (movePosition d s.feed.position) s s.marks.list) :
    feedTicked d s =
      { s with
        feed := s.feed.tick d (producing s) s.lineTime
        marks := { s.marks with measurement := (feedTicked d s).marks.measurement }
        unwind := (feedTicked d s).unwind } := by
  let t : State := { s with feed := s.feed.tick d (producing s) s.lineTime }
  have stands (m : Option Measurement) (i : Option RevInterval) :
      judgeMisses { t with marks := { s.marks with measurement := m }, unwind := { s.unwind with interval := i } } =
        { t with marks := { s.marks with measurement := m }, unwind := { s.unwind with interval := i } } :=
    judgeMisses_of_noMarkMissed t _ hm rfl rfl
  have either (c : Bool) (m : Option Measurement) :
      (if c then judgeMisses { t with marks := { s.marks with measurement := m } }
        else { t with marks := { s.marks with measurement := m } }) = { t with marks := { s.marks with measurement := m } } := by
    cases c
    · rfl
    · exact stands m s.unwind.interval
  have ticked : ∃ m, markTick d t = { t with marks := { s.marks with measurement := m } } := by
    unfold markTick
    cases hq : t.marks.measurement with
    | none => exact ⟨s.marks.measurement, rfl⟩
    | some q => exact ⟨_, either _ _⟩
  obtain ⟨m, ticked⟩ := ticked
  have account : feedTicked d s = intervalTick d (markTick d t) := by
    rw [intervalTick_eq, ticked]
    unfold feedTicked
    dsimp only
    rw [intervalTick_eq, ticked]
    split
    · exact stands _ _
    · rfl
  rw [account, intervalTick_eq, ticked]

/-- The cause of a tick that reaches nothing is the only visit. -/
theorem tickVisits_of_cause {d : Direction} {s : State} {c : Cause}
    (hf : tickCause d s = some c)
    (hp : NoEntryReached (movePosition d s.feed.position) s.plan)
    (hu : NoSplicePointReached (movePosition d s.feed.position) s.unwind) : tickVisits d s = [addCause c] := by
  obtain ⟨_, run, feed, plan, _, unwind⟩ := feedTicked_left d s
  have short : headReached (feedTicked d s) = false := by
    apply headReached_of_none
    rw [plan, feed]
    exact hp
  have idle : unwindReached (feedTicked d s) = false := by
    apply unwindReached_of_none
    rw [unwind, feed]
    exact hu
  simp [tickVisits, hf, short, idle]

theorem movePosition_forward_end {n : Nat} (hl : 2 ^ 40 - 1 ≤ n + 1) (hb : n ≤ 2 ^ 40 - 1) :
    movePosition .forward n = 2 ^ 40 - 1 := by
  unfold movePosition posMax
  dsimp only
  split <;> omega

/-- Settles O11: the causes of a tick, in whatever order its visits come. -/
theorem feedCauses : Obligations.FeedCauses := by
  intro a b s hr
  let w : State := { s with levels := { s.levels with feedA := a, feedB := b } }
  refine ⟨fun h hp => ⟨fun ht hc => ?_, fun ht hm he hu => ?_, fun ht he => ?_⟩, fun h hp he => ?_, fun d h hp hx => ?_,
    fun h hl hb hc => ?_, fun h hl hb hm he hu => ?_⟩
  · have cause := (tickCause_reverse (s := w) hp).trans (if_pos ht)
    obtain ⟨halted, has, rest⟩ := halted_of_cause cause (show w.run.causes.has .reverse = false from hc)
    exact ⟨_, exec_tick hr h, halted, has, rest (run_of_producing hp)⟩
  · have cause := (tickCause_reverse (s := w) hp).trans (if_pos ht)
    obtain ⟨_, _, _, _, measurement, unwind⟩ := feedTicked_left .reverse w
    rw [exec_tick hr h]
    dsimp only
    rw [tickVisits_of_cause cause he hu, feedTicked_of_noMarkMissed (d := .reverse) (s := w) hm, measurement, unwind,
      runVisits_single, addCause_eq _ _ (by decide)]
    rfl
  · have cause := (tickCause_reverse (s := w) hp).trans (if_neg (Nat.not_lt.mpr ht))
    obtain ⟨run, feed⟩ := visits_left cause (fun e hm => Nat.lt_of_le_of_lt (Nat.sub_le _ _) (he e hm))
    refine ⟨_, exec_tick hr h, run, (congrArg FeedTracker.excursion feed).trans ?_⟩
    exact if_pos (show producing w = true from hp)
  · obtain ⟨_, ht, hl⟩ := h
    have moved : movePosition .forward s.feed.position = s.feed.position + 1 := if_pos (by unfold posMax; omega)
    have cause : tickCause .forward w = none := (tickCause_forward w).trans (if_neg (by rw [moved]; omega))
    obtain ⟨run, feed⟩ := visits_left cause (by rw [moved]; exact he)
    refine ⟨_, exec_tick hr ht, run, (congrArg FeedTracker.excursion feed).trans ?_⟩
    refine (if_pos (show producing w = true from hp)).trans ?_
    change s.feed.excursion - 1 = _
    split <;> omega
  · obtain ⟨_, _, feed, _⟩ := feedTicked_left d w
    refine ⟨_, exec_tick hr h, (visitKept_visits d w _).excursion ((congrArg FeedTracker.excursion feed).trans ?_)⟩
    exact (if_neg (Bool.eq_false_iff.mp hp)).trans hx
  · have moved := movePosition_forward_end hl hb
    have cause : tickCause .forward w = some .positionEnd := (tickCause_forward w).trans (if_pos moved)
    obtain ⟨_, _, feed, _⟩ := feedTicked_left .forward w
    obtain ⟨halted, has, _⟩ := halted_of_cause cause (show w.run.causes.has .positionEnd = false from hc)
    refine ⟨_, exec_tick hr h, halted, has, ?_⟩
    rcases (visitKept_visits .forward w (feedTicked .forward w)).feed with hf | hf <;> rw [hf, feed] <;> exact moved
  · have moved := movePosition_forward_end hl hb
    have cause : tickCause .forward w = some .positionEnd := (tickCause_forward w).trans (if_pos moved)
    obtain ⟨_, _, _, _, measurement, unwind⟩ := feedTicked_left .forward w
    rw [exec_tick hr h]
    dsimp only
    rw [tickVisits_of_cause cause (by rw [moved]; exact he) (by rw [moved]; exact hu),
      feedTicked_of_noMarkMissed (d := .forward) (s := w) (by rw [moved]; exact hm), measurement, unwind, runVisits_single,
      addCause_eq _ _ (by decide)]
    rw [← moved]
    rfl

/-! ## A carrier tick (R10, R11, R117) -/

/-- The Carrier Tracker's own account of a tick (R10, R12). -/
def carrierTicked (s : State) : State :=
  { s with
    levels := { s.levels with carr := true }
    carrier := ⟨min (s.carrier.position + 1) (2 ^ 40 - 1), false, s.lineTime⟩ }

/-- The exits that a tick brings about (R117). -/
def exitsOf (s : State) : State := judgeExits (s.map.segments.length + s.plan.length) s

/-- What a carrier tick leaves (R10, R11, R117). -/
def carrierLeft (s : State) : State :=
  let t := if 2 ^ 40 - 1 ≤ s.carrier.position + 1 then addCause .positionEnd (carrierTicked s) else carrierTicked s
  if s.carrier.position < 2 ^ 40 - 1 then exitsOf t else t

theorem exec_carrierTick {s : State} (hr : s.inReset = false) (hp : s.carrier.position ≤ 2 ^ 40 - 1) :
    exec .carrierTick s = .next (carrierLeft s) := by
  have position : (if s.carrier.position < posMax then s.carrier.position + 1 else s.carrier.position) =
      min (s.carrier.position + 1) (2 ^ 40 - 1) := by
    unfold posMax
    split <;> omega
  have atEnd : min (s.carrier.position + 1) (2 ^ 40 - 1) = posMax ↔ 2 ^ 40 - 1 ≤ s.carrier.position + 1 := by
    unfold posMax
    omega
  refine (if_neg (by simp [hr])).trans (congrArg Host.Outcome.next ?_)
  unfold carrierTickEvent
  dsimp only
  rw [position]
  simp only [atEnd]
  rfl

theorem carrierLeft_short {s : State} (hp : s.carrier.position + 1 < 2 ^ 40 - 1) :
    carrierLeft s = exitsOf (carrierTicked s) := by
  have below : s.carrier.position < 2 ^ 40 - 1 := by omega
  have short : ¬2 ^ 40 - 1 ≤ s.carrier.position + 1 := by omega
  rw [carrierLeft, if_pos below, if_neg short]

theorem carrierLeft_ends {s : State} (hp : s.carrier.position + 1 = 2 ^ 40 - 1) :
    carrierLeft s = exitsOf (addCause .positionEnd (carrierTicked s)) := by
  have below : s.carrier.position < 2 ^ 40 - 1 := by omega
  rw [carrierLeft, if_pos below, if_pos hp.ge]

theorem carrierLeft_end {s : State} (hp : s.carrier.position = 2 ^ 40 - 1) :
    carrierLeft s = addCause .positionEnd (carrierTicked s) := by
  have atEnd : ¬s.carrier.position < 2 ^ 40 - 1 := by omega
  have beyond : 2 ^ 40 - 1 ≤ s.carrier.position + 1 := by omega
  rw [carrierLeft, if_neg atEnd, if_pos beyond]

theorem exits_exitsOf (s : State) : Exits s (exitsOf s) := exits_judgeExits _ s (Nat.le_refl _)

/-- With the oldest segment not at the exit there is nothing to do (R117). -/
theorem exitsOf_of_not_due {s : State}
    (h : ∀ g ∈ s.map.segments.head?, ∀ p ∈ g.trailing, s.carrier.position - p < s.tracking.exitDistance) : exitsOf s = s := by
  refine judgeExits_of_not_due _ s fun g hg => ?_
  unfold exitDue trailingDistance
  cases ht : g.trailing with
  | none => rfl
  | some p => simpa using h g hg p ht

theorem halted_of_addCause {c : Cause} {s : State} (h : s.run.causes.has c = false) :
    (addCause c s).run.state = .halted ∧ (addCause c s).run.causes.has c = true :=
  ⟨(addCause_run c s h).1, addCause_has c s⟩

/-- What a carrier tick leaves of the parts no exit touches. -/
theorem carrierLeft_frame (s : State) :
    let t := carrierLeft s
    t.carrier = ⟨min (s.carrier.position + 1) (2 ^ 40 - 1), false, s.lineTime⟩ ∧
      t.levels = { s.levels with carr := true } ∧ t.lineTime = s.lineTime ∧ t.tracking = s.tracking ∧
      t.orders = s.orders ∧ t.marks = s.marks ∧ t.heat = s.heat ∧ t.links = s.links ∧ t.capture = s.capture := by
  unfold carrierLeft exitsOf
  dsimp only
  split <;> split <;> simp [carrierTicked]

/-- Settles O14: the Carrier Tracker's account, the end of its range, and the exits. -/
theorem carrierTick : Obligations.CarrierTick := by
  intro s hr hp
  obtain ⟨carrier, levels, lineTime, tracking, orders, marks, heat, links, capture⟩ := carrierLeft_frame s
  have ticked : carrierTicked s = { s with carrier := (carrierLeft s).carrier, levels := (carrierLeft s).levels } := by
    rw [carrier, levels]
    rfl
  refine ⟨_, exec_carrierTick hr hp, carrier, levels, lineTime, tracking, orders, marks, heat, links, capture,
    fun hl hn => ?_, fun hl hc => ?_, fun hl => ?_, fun hl => ?_⟩
  · rw [← ticked, carrierLeft_short hl]
    refine exitsOf_of_not_due fun g hg p ht => ?_
    have := hn g hg p ht
    simp only [carrierTicked]
    omega
  · have halted : (addCause .positionEnd (carrierTicked s)).run.state = .halted ∧
        (addCause .positionEnd (carrierTicked s)).run.causes.has .positionEnd = true := halted_of_addCause hc
    rcases Nat.lt_or_eq_of_le hp with hb | hb
    · rw [carrierLeft_ends (by omega)]
      have kept := visitKept_exits (exits_exitsOf (addCause .positionEnd (carrierTicked s)))
      exact ⟨kept.stays halted.1, kept.mono .positionEnd halted.2⟩
    · rw [carrierLeft_end hb]
      exact halted
  · rw [← ticked, ← addCause_eq _ _ (by decide), carrierLeft_ends hl]
    exact exits_exitsOf _
  · rw [← ticked, ← addCause_eq _ _ (by decide), carrierLeft_end hl]

/-- The oldest segment alone at the exit, and no plan entry held at the head (R117). -/
theorem exitsOf_one {s : State} {g : Segment} {rest : List Segment} {p : Nat} (hs : s.map.segments = g :: rest)
    (ht : g.trailing = some p) (hd : s.tracking.exitDistance ≤ s.carrier.position - p)
    (hn : ∀ w ∈ rest.head?, ∀ q ∈ w.trailing, s.carrier.position - q < s.tracking.exitDistance)
    (he : NoEntryReached s.feed.position s.plan) : exitsOf s = segmentLeft g rest s := by
  have due : exitDue s g = true := by simpa [exitDue, trailingDistance, ht] using hd
  have tried : exitSegment g rest s = segmentLeft g rest s := by
    rw [exitSegment_eq, headEvent_of_not_reached _ (headReached_of_none (segmentLeft g rest s) he)]
  have stays := exitsOf_of_not_due (s := segmentLeft g rest s) hn
  unfold exitsOf at stays ⊢
  rw [hs, List.length_cons, Nat.add_right_comm, judgeExits, hs]
  dsimp only
  rw [if_pos due, tried]
  exact stays

/-- Settles O15: one exit, and the exits one after another. -/
theorem exitOfOldest : Obligations.ExitOfOldest := by
  have position {s : State} (hp : s.carrier.position + 1 < 2 ^ 40 - 1) :
      carrierTicked s =
        { s with levels := { s.levels with carr := true }, carrier := ⟨s.carrier.position + 1, false, s.lineTime⟩ } := by
    rw [carrierTicked, Nat.min_eq_left hp.le]
  refine ⟨fun s g rest p hr hs ht hp hd hn he => ?_, fun s hr hp => ⟨_, exec_carrierTick hr (by omega), ?_⟩⟩
  · have once : exitsOf (carrierTicked s) = segmentLeft g rest (carrierTicked s) := by
      rw [position hp]
      exact exitsOf_one hs ht hd hn he
    refine ⟨segmentLeft g rest (carrierTicked s), ?_, rfl, rfl, rfl, rfl, rfl, rfl, fun hl => ?_, fun hl => ?_⟩
    · rw [exec_carrierTick hr (by omega), carrierLeft_short hp, once]
    · have room : decide ((carrierTicked s).exitUnit.reports.length < 16) = true := decide_eq_true hl
      unfold segmentLeft
      simp only [room, if_true]
      exact ⟨rfl, rfl, rfl, rfl⟩
    · have full : decide ((carrierTicked s).exitUnit.reports.length < 16) = false := decide_eq_false (Nat.not_lt.mpr hl)
      have held : ¬(carrierTicked s).exitUnit.reports = [] := fun h => by
        have : s.exitUnit.reports = [] := h
        simp [this] at hl
      unfold segmentLeft
      simp only [full, if_neg held, Bool.false_eq_true, if_false]
      exact ⟨rfl, rfl, rfl, rfl⟩
  · rw [carrierLeft_short hp, ← position hp]
    exact exits_exitsOf _

end Sys2Proof.Machine

/-!
The Mark Unit: mark edges, misses and accepts (O17, O18).
-/

namespace Sys2Proof.Machine

/-! ## The front of the list (R60 to R63) -/

theorem missDue_of_noMarkMissed {s : State} (h : NoMarkMissed s.feed.position s s.marks.list) :
    ∀ e ∈ s.marks.list.head?, missDue s e = false := fun e he => by
  have := h e he
  simp only [missDue, Bool.and_eq_false_iff, decide_eq_false_iff_not]
  omega

theorem judgeMisses_stands {s : State} (h : NoMarkMissed s.feed.position s s.marks.list) : judgeMisses s = s :=
  judgeMisses_of_not_due s (missDue_of_noMarkMissed h)

theorem judgeFront_stands (n : Nat) {s : State} (h : NoMarkMissed s.feed.position s s.marks.list) : judgeFront n s = s := by
  cases n with
  | zero => rfl
  | succ n =>
    have due := missDue_of_noMarkMissed h
    unfold judgeFront
    cases hl : s.marks.list with
    | nil => rfl
    | cons e rest =>
      rw [hl] at due
      simp [due e rfl]

theorem frontOpened_eq (s : State) :
    frontOpened s =
      { s with
        marks := { s.marks with
          last := if s.marks.list.head?.any (fun x => x.index == 0) then none else s.marks.last } } := by
  unfold frontOpened
  cases hl : s.marks.list with
  | nil => rfl
  | cons e rest => by_cases h : e.index = 0 <;> simp [h]

/-- A flag for a copy is set on its context until its PANEL_START is consumed, from then on on its segment (R41). -/
theorem flagPanel_of_context {n : Serial} (f : PanelFlag) {s : State}
    (h : ∃ c ∈ s.planner.contexts, c.serial = n ∧ c.startConsumed = false) :
    flagPanel n f s =
      { s with
        planner := { s.planner with
          contexts := s.planner.contexts.map (fun c =>
            if c.serial = n ∧ c.startConsumed = false then { c with flags := c.flags.add f } else c) } } := by
  rw [flagPanel, if_pos (by simpa using h)]
  simp

theorem flagPanel_of_consumed {n : Serial} (f : PanelFlag) {s : State}
    (h : ∀ c ∈ s.planner.contexts, c.serial = n → c.startConsumed = true) :
    flagPanel n f s = { s with map := recordedOn n (fun g => { g with flags := g.flags.add f }) s.map } := by
  rw [flagPanel, if_neg (by simpa using h)]
  rfl

theorem flagPanel_parts (n : Serial) (f : PanelFlag) (s : State) :
    flagPanel n f s = { s with planner := (flagPanel n f s).planner, map := (flagPanel n f s).map } := by
  unfold flagPanel
  split <;> rfl

theorem tallyMiss_eq (m : Option AcceptedMark) :
    tallyMiss m = m.bind (fun m => if m.tally < 255 then some { m with tally := m.tally + 1 } else none) := by
  cases m <;> rfl

/-- A miss taken with its front opened is what R63 says. -/
theorem missTaken_takeMiss (e : Expectation) (rest : List Expectation) (o : OutcomeRecord) {s : State}
    (h : s.marks.misses ≤ 3) : MissTaken s e rest o (frontOpened (takeMiss e rest o s)) := by
  let t : State :=
    { s with
      marks := { s.marks with
        list := rest, misses := min (s.marks.misses + 1) 3, last := tallyMiss s.marks.last, outcome := some o } }
  have count : countTo 3 s.marks.misses = min (s.marks.misses + 1) 3 := by
    unfold countTo
    split <;> omega
  have taken : takeMiss e rest o s =
      if min (s.marks.misses + 1) 3 = 3 then raise .regLost (flagPanel e.serial .regLost t) else t := by
    rw [takeMiss, count]
  rw [frontOpened_eq, taken]
  by_cases hm : 3 ≤ s.marks.misses + 1
  · rw [if_pos (Nat.min_eq_right hm), flagPanel_parts]
    refine ⟨rfl, ?_, fun hl => absurd hm (Nat.not_le.mpr hl), fun _ => ⟨rfl, fun hc => ?_, fun hc => ?_⟩⟩
    · rw [← tallyMiss_eq]
      rfl
    · rw [flagPanel_of_context (s := t) .regLost hc]
      exact ⟨rfl, rfl⟩
    · rw [flagPanel_of_consumed (s := t) .regLost hc]
      exact ⟨rfl, rfl⟩
  · rw [if_neg (by omega)]
    refine ⟨rfl, ?_, fun _ => ⟨rfl, rfl, rfl⟩, fun hl => absurd hl hm⟩
    rw [← tallyMiss_eq]

theorem takeMiss_front (e : Expectation) (rest : List Expectation) (o : OutcomeRecord) (s : State) :
    (frontOpened (takeMiss e rest o s)).marks.list = rest := by
  rw [frontOpened_eq, takeMiss]
  dsimp only
  split
  · rw [flagPanel_parts]
    rfl
  · rfl

/-- After a miss the next front, not missed, stands. -/
theorem judgeFront_miss (n : Nat) {e : Expectation} {rest : List Expectation} (o : OutcomeRecord) {s : State}
    (h : NoMarkMissed s.feed.position s rest) :
    judgeFront n (frontOpened (takeMiss e rest o s)) = frontOpened (takeMiss e rest o s) := by
  apply judgeFront_stands
  rw [takeMiss_front]
  simpa [NoMarkMissed] using h

/-! ## A mark at its trailing edge (R59, R61, R64) -/

/-- The mark's level negated and its measurement closed, before the mark is judged (R59). -/
def markClosed (s : State) : State :=
  { s with levels := { s.levels with mark := false }, marks := { s.marks with measurement := none } }

theorem exec_markTrailingEdge {s : State} {q : Measurement} (hr : s.inReset = false) (hm : s.levels.mark = true)
    (hq : s.marks.measurement = some q) :
    exec .markTrailingEdge s = .next (judgeMisses (judgeMark q (markClosed s))) := by
  refine (if_neg (by simp [hr, hm])).trans ?_
  dsimp only
  rw [hq]
  rfl

/-- An outcome that changes nothing else, the front not missed (R59, R61). -/
theorem exec_markTrailingEdge_outcome {s : State} {q : Measurement} {o : MarkOutcome} (hr : s.inReset = false)
    (hm : s.levels.mark = true) (hq : s.marks.measurement = some q) (hn : NoMarkMissed s.feed.position s s.marks.list)
    (ho : judgeMark q (markClosed s) = recordOutcome o q (markClosed s)) :
    exec .markTrailingEdge s =
      .next
        { s with
          levels := { s.levels with mark := false }
          marks := { s.marks with measurement := none, outcome := some ⟨o, q.headPos, q.width⟩ } } := by
  rw [exec_markTrailingEdge hr hm hq, ho, judgeMisses_stands (s := recordOutcome o q (markClosed s)) hn]
  rfl

theorem judgeMark_reverse {q : Measurement} (h : q.spoiled = some .reverse) (s : State) :
    judgeMark q s = recordOutcome .discardedReverse q s := if_pos h

theorem judgeMark_width {q : Measurement} {s : State} (hn : q.spoiled ≠ some .reverse)
    (h : q.spoiled = some .width ∨ s.tracking.markWidthMax < q.width ∨ q.width < s.tracking.markWidthMin) :
    judgeMark q s = recordOutcome .discardedWidth q s := by
  rw [judgeMark, if_neg hn]
  by_cases hw : q.spoiled = some .width ∨ s.tracking.markWidthMax < q.width
  · rw [if_pos hw]
  · rw [if_neg hw, if_pos]
    tauto

/-- A mark not spoiled, of a width inside its bounds, is judged against the front expectation (R61). -/
theorem judgeMark_fit {q : Measurement} {s : State} (hq : q.spoiled = none) (hl : s.tracking.markWidthMin ≤ q.width)
    (hu : q.width ≤ s.tracking.markWidthMax) :
    (s.marks.list = [] → judgeMark q s = recordOutcome .stray q s) ∧
      ∀ e rest, s.marks.list = e :: rest →
        judgeMark q s =
          if !e.admits q.headPos then recordOutcome .stray q s
          else if !factorFits (measuredFactor s.marks.last e q.headPos s.tracking.feedTick) then
            frontOpened (takeMiss e rest ⟨.rejectedK, q.headPos, q.width⟩ s)
          else if !(movedPositions rest s).all (shiftFits ((q.headPos : Int) - e.position)) then
            frontOpened (takeMiss e rest ⟨.rejectedRange, q.headPos, q.width⟩ s)
          else shiftEvent (acceptMark q e rest s) := by
  unfold judgeMark
  rw [if_neg (by simp [hq]), if_neg (by simp [hq]; omega), if_neg (by omega)]
  exact ⟨fun h => by rw [h], fun e rest h => by rw [h]⟩

theorem admits_iff (e : Expectation) (n : Nat) :
    e.admits n = true ↔ n ≤ 2 ^ 40 - 1 ∧ e.position ≤ n + e.window ∧ n ≤ e.position + e.window := by
  simp only [Expectation.admits, Bool.and_eq_true, decide_eq_true_eq, and_assoc]
  rfl

theorem judgeMark_stray {q : Measurement} {s : State} (hq : q.spoiled = none) (hl : s.tracking.markWidthMin ≤ q.width)
    (hu : q.width ≤ s.tracking.markWidthMax)
    (h : 2 ^ 40 - 1 < q.headPos ∨
      ∀ e ∈ s.marks.list.head?, q.headPos + e.window < e.position ∨ e.position + e.window < q.headPos) :
    judgeMark q s = recordOutcome .stray q s := by
  obtain ⟨empty, front⟩ := judgeMark_fit hq hl hu
  cases hs : s.marks.list with
  | nil => exact empty hs
  | cons e rest =>
    rw [hs] at h
    rw [front e rest hs, if_pos]
    rw [Bool.not_eq_true', ← Bool.not_eq_true, admits_iff]
    rintro ⟨below, first, last⟩
    rcases h with h | h
    · omega
    · have := h e rfl
      omega

/-- The measured factor, where the last accepted mark carries the expectation's serial (R68). -/
theorem measuredFactor_some {last : Option AcceptedMark} {e : Expectation} {n q : Nat} {k : Int} :
    measuredFactor last e n q = some k ↔
      ∃ m, last = some m ∧ m.serial = e.serial ∧
        k = roundHalfUpInt (((n : Int) - m.headPos) * 65536 * q) (e.repeatLen * 1000 * (m.tally + 1)) := by
  unfold measuredFactor
  cases last with
  | none => simp
  | some m => by_cases h : m.serial = e.serial <;> simp [h, eq_comm]

theorem factorFits_iff (k : Option Int) : factorFits k = true ↔ ∀ x, k = some x → 62259 ≤ x ∧ x ≤ 68813 := by
  cases k <;> simp [factorFits]

theorem shiftsFit_iff (d : Int) (l : List Nat) :
    l.all (shiftFits d) = true ↔ ∀ n ∈ l, 0 ≤ (n : Int) + d ∧ (n : Int) + d ≤ 2 ^ 40 - 1 := by
  simp only [List.all_eq_true, shiftFits, Bool.and_eq_true, decide_eq_true_eq]
  rfl

/-- A tick that reaches nothing and adds no cause is visited by none. -/
theorem tickVisits_of_none {d : Direction} {s : State} (hf : tickCause d s = none)
    (hp : NoEntryReached (movePosition d s.feed.position) s.plan)
    (hu : NoSplicePointReached (movePosition d s.feed.position) s.unwind) : tickVisits d s = [] := by
  obtain ⟨_, run, feed, plan, _, unwind⟩ := feedTicked_left d s
  have short : headReached (feedTicked d s) = false := by
    apply headReached_of_none
    rw [plan, feed]
    exact hp
  have idle : unwindReached (feedTicked d s) = false := by
    apply unwindReached_of_none
    rw [unwind, feed]
    exact hu
  simp [tickVisits, hf, short, idle]

/-- A forward tick that carries the front's window past the sensor misses the front (R62). -/
theorem exec_forwardTick_miss {a b : Bool} {s : State} {e : Expectation} {rest : List Expectation} (h : ForwardTick a b s)
    (hl : s.marks.list = e :: rest) (hq : s.marks.measurement = none)
    (hlate : e.position + e.window < s.feed.position + 1 + s.tracking.markOffset)
    (hn : NoMarkMissed (s.feed.position + 1) s rest) (hp : NoEntryReached (s.feed.position + 1) s.plan)
    (hu : NoSplicePointReached (s.feed.position + 1) s.unwind) :
    exec (.feedEncoderChange a b) s =
      .next (frontOpened (takeMiss e rest ⟨.miss, e.position, 0⟩ (forwardTicked a b s))) := by
  obtain ⟨hr, ht, hb⟩ := h
  let w : State := { s with levels := { s.levels with feedA := a, feedB := b } }
  have moved : movePosition .forward s.feed.position = s.feed.position + 1 := if_pos (by unfold posMax; omega)
  have cause : tickCause .forward w = none := (tickCause_forward w).trans (if_neg (by rw [moved]; omega))
  have account : feedTicked .forward w = judgeMisses (forwardTicked a b s) := by
    have tick : markTick .forward { w with feed := w.feed.tick .forward (producing w) w.lineTime } =
        { w with feed := w.feed.tick .forward (producing w) w.lineTime } := by
      simp [markTick, w, hq]
    unfold feedTicked
    dsimp only
    rw [tick, intervalTick_eq, if_pos (by simp [w, moved])]
    refine congrArg judgeMisses ?_
    have closed : ({ s.marks with measurement := none } : MarkUnit) = s.marks := by rw [← hq]
    rw [forwardTicked, hq, Option.map_none, closed, ← moved]
    rfl
  have due : missDue (forwardTicked a b s) e = true := by
    simp [missDue, missDeferred, forwardTicked, hq, hlate]
  have miss : judgeMisses (forwardTicked a b s) = frontOpened (takeMiss e rest ⟨.miss, e.position, 0⟩ (forwardTicked a b s)) := by
    have list : (forwardTicked a b s).marks.list = e :: rest := hl
    rw [judgeMisses, list, List.length_cons, judgeFront, list]
    dsimp only
    rw [if_pos due]
    exact judgeFront_miss _ _ hn
  rw [exec_tick hr ht]
  dsimp only
  rw [tickVisits_of_none cause (by rw [moved]; exact hp) (by rw [moved]; exact hu), account, miss]
  rfl

/-- Settles O17: the edges by the measurement and the front, and the misses by what takes them. -/
theorem markEdges : Obligations.MarkEdges := by
  refine ⟨fun s hr => ⟨fun hm => if_neg (by simp [hr, hm]), fun hm hq hn => ?_, fun q hm hq hn => ?_⟩,
    fun s e rest hl h3 => ⟨fun a b h hq hlate hn hp hu =>
      ⟨_, exec_forwardTick_miss h hl hq hlate hn hp hu, missTaken_takeMiss _ _ _ h3⟩,
    fun q hr hm hq hs hmin hmax hfirst hlast hpos hn => ?_⟩⟩
  · have closed : ({ s.marks with measurement := none } : MarkUnit) = s.marks := by rw [← hq]
    refine (if_neg (by simp [hr, hm])).trans ?_
    dsimp only
    rw [hq, closed]
  · dsimp only
    exact ⟨fun hs => exec_markTrailingEdge_outcome hr hm hq hn (judgeMark_reverse hs _),
      fun hs hw => exec_markTrailingEdge_outcome hr hm hq hn (judgeMark_width hs hw),
      fun hs hmin hmax hw => exec_markTrailingEdge_outcome hr hm hq hn (judgeMark_stray hs hmin hmax hw)⟩
  · have judged := (judgeMark_fit (s := markClosed s) hs hmin hmax).2 e rest hl
    rw [if_neg (by simp [(admits_iff e q.headPos).mpr ⟨hpos, hfirst, hlast⟩])] at judged
    have rejected (o : OutcomeRecord) (h : judgeMark q (markClosed s) = frontOpened (takeMiss e rest o (markClosed s))) :
        ∃ t, exec .markTrailingEdge s = .next t ∧ MissTaken (markClosed s) e rest o t := by
      refine ⟨_, exec_markTrailingEdge hr hm hq, ?_⟩
      rw [h, judgeMisses, judgeFront_miss _ o (s := markClosed s) hn]
      exact missTaken_takeMiss _ _ _ h3
    dsimp only
    refine ⟨fun m hlast hserial hk => rejected _ (judged.trans (if_pos ?_)), fun hk hshift => rejected _ ?_⟩
    · rw [Bool.not_eq_true', ← Bool.not_eq_true, factorFits_iff]
      intro hf
      obtain ⟨low, high⟩ := hf _ (measuredFactor_some.mpr ⟨m, hlast, hserial, rfl⟩)
      rcases hk with hk | hk
      · exact absurd low (not_le.mpr hk)
      · exact absurd high (not_le.mpr hk)
    · have fits : factorFits (measuredFactor (markClosed s).marks.last e q.headPos (markClosed s).tracking.feedTick) = true := by
        rw [factorFits_iff]
        intro k hmk
        obtain ⟨m, hlast, hserial, rfl⟩ := measuredFactor_some.mp hmk
        exact hk m hlast hserial
      rw [judged, if_neg (by simp [fits]), if_pos]
      rw [Bool.not_eq_true', ← Bool.not_eq_true, shiftsFit_iff]
      intro hf
      obtain ⟨n, hn, hout⟩ := hshift
      obtain ⟨low, high⟩ := hf n hn
      rcases hout with hout | hout
      · exact absurd low (not_le.mpr hout)
      · exact absurd high (not_le.mpr hout)

/-! ## The accept and its shift (R65 to R68) -/

/-- The factor after an accept: the measured one, else the one in force (R65, R68). -/
def factorAfter (q : Measurement) (e : Expectation) (s : State) : Int :=
  match s.marks.last with
  | some a =>
    if a.serial = e.serial then
      roundHalfUpInt (((q.headPos : Int) - a.headPos) * 65536 * s.tracking.feedTick) (e.repeatLen * 1000 * (a.tally + 1))
    else s.marks.k
  | none => s.marks.k

theorem factorAfter_eq (q : Measurement) (e : Expectation) (s : State) :
    factorAfter q e s = (measuredFactor s.marks.last e q.headPos s.tracking.feedTick).getD s.marks.k := by
  unfold factorAfter measuredFactor
  cases s.marks.last with
  | none => rfl
  | some a => by_cases h : a.serial = e.serial <;> simp [h]

/-- What an accept makes of the state, before the next front is judged (R65, R60). -/
theorem acceptMark_eq (q : Measurement) (e : Expectation) (rest : List Expectation) (s : State) :
    acceptMark q e rest (markClosed s) = judgeMisses (markAccepted q e rest (factorAfter q e s) s) := by
  have front : ∀ f : Expectation → Expectation, (∀ x, (f x).index = x.index) →
      (rest.map f).head?.any (fun x => x.index == 0) = rest.head?.any (fun x => x.index == 0) := fun f hf => by
    cases rest <;> simp [hf]
  have closed : measuredFactor (markClosed s).marks.last e q.headPos (markClosed s).tracking.feedTick =
      measuredFactor s.marks.last e q.headPos s.tracking.feedTick := rfl
  have splice (d : Int) : (markClosed s).unwind.splice.shift d = s.unwind.splice.shift d := rfl
  rw [factorAfter_eq, acceptMark]
  refine congrArg judgeMisses ?_
  rw [frontOpened_eq]
  unfold markAccepted shiftPlan
  dsimp only
  rw [front (fun x => { x with position := shiftPos ((q.headPos : Int) - e.position) x.position }) (fun _ => rfl), closed, splice]
  cases measuredFactor s.marks.last e q.headPos s.tracking.feedTick <;> cases s.unwind.splice <;> rfl

/-- A shift as an event leaves the Mark Unit and the feed position alone (R66, R67). -/
theorem shiftEvent_front (s : State) :
    (shiftEvent s).marks = s.marks ∧ (shiftEvent s).tracking = s.tracking ∧
      (shiftEvent s).feed.position = s.feed.position := by
  refine runVisits_keeps (fun t => t.marks = s.marks ∧ t.tracking = s.tracking ∧ t.feed.position = s.feed.position) _
    (fun f hf t ht => ?_) _ (by simp) (by simp)
  have visit : f = headEvent ∨ f = unwindShift := by
    rcases List.mem_append.mp hf with hf | hf <;> split at hf <;> simp_all
  rcases visit with rfl | rfl
  · have position : (headEvent t).feed.position = t.feed.position := by
      rcases (visitKept_headEvent t).feed with h | h <;> rw [h]
    simpa [position] using ht
  · simpa using ht

/-- Settles O18: the accept, and the shift as an event. -/
theorem markAcceptedTaken : Obligations.MarkAccepted := by
  intro s q e rest hr hm hq hs hmin hmax hl hfirst hlast hpos d k hlow hhigh hfit hn moved
  refine ⟨rfl, rfl, rfl, rfl, rfl, rfl, rfl, fun r i x f hsp => ?_, fun hsp => ?_, fun n => ?_, ?_⟩
  · simp only [moved, markAccepted, hsp]
    rfl
  · have stands : moved.unwind.splice = s.unwind.splice := by
      simp only [moved, markAccepted]
    exact congrArg (fun sp => { s.unwind with splice := sp }) stands
  · have planned : n ∈ plannedPositions s.unwind.splice ↔
        ∃ r i x f, s.unwind.splice = .planned r i x f ∧ (n = x ∨ n = f) := by
      cases s.unwind.splice <;> simp [plannedPositions]
    simp only [movedPositions, List.mem_append, planned, nextMarks, List.mem_map, List.mem_filterMap, Option.mem_toList,
      Option.map_eq_some_iff, or_assoc, eq_comm (b := n)]
  · have after : markAccepted q e rest (factorAfter q e s) s = moved := rfl
    have front : NoMarkMissed moved.feed.position moved moved.marks.list := by
      intro x hx
      obtain ⟨y, hy, rfl⟩ : ∃ y ∈ rest.head?, { y with position := shiftPos d y.position } = x := by
        simpa [moved, markAccepted, shiftPos] using hx
      have ahead := hn y hy
      have fits := hfit y.position (by
        have : y ∈ rest := List.mem_of_mem_head? hy
        simp only [movedPositions, List.mem_append, List.mem_map]
        grind)
      simp only [moved, markAccepted, shiftPos]
      omega
    have judged := (judgeMark_fit (s := markClosed s) hs hmin hmax).2 e rest hl
    rw [if_neg (by simp [(admits_iff e q.headPos).mpr ⟨hpos, hfirst, hlast⟩]), if_neg, if_neg, acceptMark_eq, after,
      judgeMisses_stands front] at judged
    · refine ⟨shiftEvent moved, ?_, shiftTaken_shiftEvent moved⟩
      obtain ⟨marks, tracking, position⟩ := shiftEvent_front moved
      rw [exec_markTrailingEdge hr hm hq, judged,
        judgeMisses_of_noMarkMissed moved (shiftEvent moved) (by rw [position]; exact front) (by rw [marks]) tracking]
    · rw [Bool.not_eq_true', Bool.not_eq_false, shiftsFit_iff]
      exact hfit
    · rw [Bool.not_eq_true', Bool.not_eq_false, factorFits_iff]
      intro x hx
      have measured : k = x := by
        rw [show k = factorAfter q e s from rfl, factorAfter_eq]
        rw [show measuredFactor s.marks.last e q.headPos s.tracking.feedTick = some x from hx]
        rfl
      omega

end Sys2Proof.Machine

/-!
The Fold Planner's events (O19, O20, O21).
-/

namespace Sys2Proof.Machine

/-! ## When the planner continues a copy (R44, R46) -/

theorem copyPlanned_unique {s : State} {c c' : Context} {p p' : PlanningState} (h : CopyPlanned s c p) (k : CopyPlanned s c' p') :
    c' = c ∧ p' = p := by
  have both := ((planningCopy_iff s c' p').mpr k).symm.trans ((planningCopy_iff s c p).mpr h)
  cases both
  exact ⟨rfl, rfl⟩

/-- A copy being planned goes on where the plan and the list have room and the next entry stands in the range (R44, R46). -/
theorem plannerPiece_of {s : State} {c : Context} {p : PlanningState} (h : planningCopy s = some (c, p))
    (hp : s.plan.length < 128) (hl : c.repeatLen ≠ 0 → s.marks.list.length < 16)
    (hr : MarkNext s c p ∨ nextEntryAt s c p ≤ 2 ^ 40 - 1) : plannerPiece s = some (c, p, nextPiece s c p) := by
  have copy := (planningCopy_iff s c p).mp h
  obtain ⟨x, hx, hplanning⟩ := copyPlanned_some s c p copy
  refine (plannerPiece_iff s c p _).mpr ⟨⟨hp, ?_, .inl ⟨x, hx, hplanning⟩, fun hd => hplanning (hd.2 x hx), ?_⟩, copy, rfl⟩
  · rintro ⟨r, hnext, hne, hfull⟩
    rcases hnext with ⟨c', p', hc, rfl⟩ | ⟨hnone, _⟩
    · obtain ⟨rfl, rfl⟩ := copyPlanned_unique copy hc
      exact absurd (hl hne) (Nat.not_lt.mpr hfull)
    · exact hplanning (hnone x hx)
  · rintro ⟨c', p', hc, hm, hb⟩
    obtain ⟨rfl, rfl⟩ := copyPlanned_unique copy hc
    rcases hr with hr | hr
    · exact hm hr
    · exact absurd hb (Nat.not_lt.mpr hr)

/-! ## An expectation (R52, R55) -/

/-- Settles O20: the append, the front opened where the list was empty, and the front judged. -/
theorem expectationAppended : Obligations.ExpectationAppended := by
  refine ⟨fun s c p cur hr hp hc hreg hl hcur hlt => ?_, planningCopy_iff⟩
  intro e hfront
  have next : MarkNext s c p := ⟨hreg, by rw [hcur]; exact hlt⟩
  have piece : plannerPiece s = some (c, p, .expectation) :=
    (plannerPiece_of hc hp (fun _ => hl) (.inl next)).trans (by rw [show nextPiece s c p = .expectation from if_pos next])
  have taken : exec .plannerAppendExpectation s = .next (appendExpectation c p s) := by
    refine (if_neg (by simp [hr])).trans ?_
    rw [piece]
  rw [taken]
  refine congrArg Host.Outcome.next ?_
  let t : State :=
    setPlanning (some { p with nextMark := p.nextMark + c.repeatTicks, repeatIndex := p.repeatIndex + 1 })
      { s with marks := { s.marks with list := s.marks.list ++ [e] } }
  have opened : (if s.marks.list.isEmpty then frontOpened t else t) =
      { t with marks := { t.marks with last := if s.marks.list = [] ∧ p.repeatIndex = 0 then none else s.marks.last } } := by
    cases hs : s.marks.list with
    | nil =>
      refine (if_pos rfl).trans ?_
      rw [frontOpened_eq]
      simp [t, setPlanning, hs, e]
    | cons x rest => rfl
  rw [show appendExpectation c p s = judgeMisses (if s.marks.list.isEmpty then frontOpened t else t) from rfl, opened]
  exact judgeMisses_stands hfront

/-! ## The appends to the plan (R49, R51, R54) -/

/-- What the planner makes of the state for a copy's next entry: the cursor and the planning state (R46). -/
def planMoved (cursor : Nat) (next : Option PlanningState) (s : State) : State :=
  { s with
    planner := { s.planner with
      cursor := some cursor
      contexts := s.planner.contexts.map (fun x => if x.planning.isSome then { x with planning := next } else x) } }

/-- A context keeps its copy while its planning state moves on. -/
theorem context_planMoved (next : Option PlanningState) (x : Context) :
    let y := if x.planning.isSome then { x with planning := next } else x
    y.serial = x.serial ∧ y.startConsumed = x.startConsumed ∧ y.slot = x.slot := by
  dsimp only
  split <;> exact ⟨rfl, rfl, rfl⟩

/-- A FOLD's codes are clamped exactly where a depth is beyond the table's (R51). -/
theorem strokeClamps_iff (table : Vector Nat 16) (w h : Nat) :
    (strokeClamps table w || strokeClamps table h) = true ↔ table[15] < w ∨ table[15] < h := by
  simp [strokeClamps]

/-- The position of the next entry, by the step that is next (R46, R54). -/
theorem nextEntryAt_fold {s : State} {c : Context} {p : PlanningState} {st : PatternStep} {cur : Nat}
    (hcur : s.planner.cursor = some cur) (hst : s.slots[c.slot].steps[p.stepIndex]? = some st) (hk : st.kind ≠ .flat) :
    nextEntryAt s c p = entryPosition s.planner.lastAppended (cur + (pieceTake s c p st).1) := by
  simp only [nextEntryAt, hst, hcur, if_neg hk, pieceTake, shrinkOf_eq, Option.getD_some]

theorem nextEntryAt_flat {s : State} {c : Context} {p : PlanningState} {st : PatternStep} {cur : Nat}
    (hcur : s.planner.cursor = some cur) (hst : s.slots[c.slot].steps[p.stepIndex]? = some st) (hk : st.kind = .flat) :
    nextEntryAt s c p = entryPosition s.planner.lastAppended cur := by
  simp only [nextEntryAt, hst, hcur, if_pos hk, Option.getD_some]

theorem nextEntryAt_panelEnd {s : State} {c : Context} {p : PlanningState} {cur : Nat}
    (hcur : s.planner.cursor = some cur) (hst : s.slots[c.slot].steps[p.stepIndex]? = none) :
    nextEntryAt s c p = entryPosition s.planner.lastAppended cur := by
  simp only [nextEntryAt, hst, hcur, Option.getD_some]

/-- The state that a FOLD is appended to: the planner moved on, and the copy flagged where a depth is beyond the table (R51). -/
def foldPlanned (c : Context) (p : PlanningState) (st : PatternStep) (cur : Nat) (s : State) : State :=
  let u := planMoved (cur + (pieceTake s c p st).1) (some (p.advance st (pieceTake s c p st).2)) s
  if strokeClamps s.head.setup.table st.waist || strokeClamps s.head.setup.table st.hem then
    flagPanel c.serial .strokeClamped u
  else u

theorem foldPlanned_parts (c : Context) (p : PlanningState) (st : PatternStep) (cur : Nat) (s : State) :
    (foldPlanned c p st cur s).plan = s.plan ∧
      (foldPlanned c p st cur s).planner.lastAppended = s.planner.lastAppended := by
  unfold foldPlanned
  dsimp only
  split <;> simp [planMoved]

theorem appendFold_eq {s : State} {cur : Nat} (hcur : s.planner.cursor = some cur) (c : Context) (p : PlanningState)
    (st : PatternStep) :
    appendFold c p st s =
      appendEntry
        ⟨.fold (strokeCode s.head.setup.table st.waist) (strokeCode s.head.setup.table st.hem),
          entryPosition s.planner.lastAppended (cur + (pieceTake s c p st).1), c.serial⟩
        (foldPlanned c p st cur s) := by
  simp only [appendFold, hcur, Option.getD_some, place_eq]
  rfl

theorem appendFlat_eq {s : State} {cur : Nat} (hcur : s.planner.cursor = some cur) (c : Context) (p : PlanningState)
    (st : PatternStep) :
    appendFlat c p st s =
      appendEntry
        ⟨.flat (cur + (pieceTake s c p st).1 - entryPosition s.planner.lastAppended cur) st.spliceOk,
          entryPosition s.planner.lastAppended cur, c.serial⟩
        (planMoved (cur + (pieceTake s c p st).1) (some (p.advance st (pieceTake s c p st).2)) s) := by
  simp only [appendFlat, hcur, Option.getD_some, place_eq]
  rfl

theorem appendPanelEnd_eq {s : State} {cur : Nat} (hcur : s.planner.cursor = some cur) (c : Context) :
    appendPanelEnd c s =
      appendEntry ⟨.panelEnd, entryPosition s.planner.lastAppended cur, c.serial⟩
        (if c.startConsumed then freeContext c.serial (planMoved cur none s) else planMoved cur none s) := by
  have moved : setPlanning none s = planMoved cur none s := by
    rw [planMoved, ← hcur]
    rfl
  simp only [appendPanelEnd, hcur, Option.getD_some, place_eq, moved]

theorem nextPiece_fold {s : State} {c : Context} {p : PlanningState} {st : PatternStep} (hm : ¬MarkNext s c p)
    (hst : s.slots[c.slot].steps[p.stepIndex]? = some st) (hk : st.kind ≠ .flat) : nextPiece s c p = .fold st := by
  rw [nextPiece, if_neg (show ¬(c.repeatLen ≠ 0 ∧ p.nextMark < s.planner.cursor.getD 0) from hm), hst]
  exact if_neg hk

theorem nextPiece_flat {s : State} {c : Context} {p : PlanningState} {st : PatternStep} (hm : ¬MarkNext s c p)
    (hst : s.slots[c.slot].steps[p.stepIndex]? = some st) (hk : st.kind = .flat) : nextPiece s c p = .flat st := by
  rw [nextPiece, if_neg (show ¬(c.repeatLen ≠ 0 ∧ p.nextMark < s.planner.cursor.getD 0) from hm), hst]
  exact if_pos hk

theorem nextPiece_panelEnd {s : State} {c : Context} {p : PlanningState} (hm : ¬MarkNext s c p)
    (hst : s.slots[c.slot].steps[p.stepIndex]? = none) : nextPiece s c p = .panelEnd := by
  rw [nextPiece, if_neg (show ¬(c.repeatLen ≠ 0 ∧ p.nextMark < s.planner.cursor.getD 0) from hm), hst]

/-- Settles O21: the piece that R46 gives, and its append. -/
theorem entriesAppended : Obligations.EntriesAppended := by
  intro s c p cur hr hp hc hcur hreg planned shrink advanced appended
  have notMark : ¬MarkNext s c p := fun ⟨hne, hlt⟩ => by
    rw [hcur] at hlt
    exact absurd (hreg hne).2 (Nat.not_le.mpr hlt)
  have piece (hpos : nextEntryAt s c p ≤ 2 ^ 40 - 1) : plannerPiece s = some (c, p, nextPiece s c p) :=
    plannerPiece_of hc hp (fun h => (hreg h).1) (.inr hpos)
  refine ⟨fun st hst hk => ?_, fun st hst hk => ?_, fun hst => ?_⟩
  · intro take pos u hpos
    have taken : exec .plannerAppendFold s = .next (appendFold c p st s) := by
      refine (if_neg (by simp [hr])).trans ?_
      rw [piece (by rw [nextEntryAt_fold hcur hst hk]; exact hpos), nextPiece_fold notMark hst hk]
    have clamps := strokeClamps_iff s.head.setup.table st.waist st.hem
    obtain ⟨plan, last⟩ := foldPlanned_parts c p st cur s
    refine ⟨foldPlanned c p st cur s, appendFold c p st s, taken, ?_, fun hw hh => ?_, fun hcl => ⟨fun hx => ?_, fun hx => ?_⟩⟩
    · rw [appendFold_eq hcur]
      have := appendTaken_appendEntry ⟨.fold (strokeCode s.head.setup.table st.waist) (strokeCode s.head.setup.table st.hem),
          entryPosition s.planner.lastAppended (cur + (pieceTake s c p st).1), c.serial⟩ (foldPlanned c p st cur s)
      rw [plan] at this
      exact this
    · have clear : ¬(strokeClamps s.head.setup.table st.waist || strokeClamps s.head.setup.table st.hem) = true := by
        rw [clamps]
        omega
      exact if_neg clear
    · have flagged : foldPlanned c p st cur s = flagPanel c.serial .strokeClamped u := if_pos (clamps.mpr hcl)
      have context : ∃ y ∈ u.planner.contexts, y.serial = c.serial ∧ y.startConsumed = false := by
        obtain ⟨x, hx, hserial, hstart⟩ := hx
        obtain ⟨serial, start, _⟩ := context_planMoved (some (advanced st take.2)) x
        exact ⟨_, List.mem_map_of_mem hx, serial.trans hserial, start.trans hstart⟩
      rw [flagged, flagPanel_of_context .strokeClamped context]
      rfl
    · have flagged : foldPlanned c p st cur s = flagPanel c.serial .strokeClamped u := if_pos (clamps.mpr hcl)
      have consumed : ∀ y ∈ u.planner.contexts, y.serial = c.serial → y.startConsumed = true := by
        intro y hy hserial
        obtain ⟨x, hxm, rfl⟩ := List.mem_map.mp hy
        obtain ⟨serial, start, _⟩ := context_planMoved (some (advanced st take.2)) x
        exact start.trans (hx x hxm (serial.symm.trans hserial))
      rw [flagged, flagPanel_of_consumed .strokeClamped consumed]
      rfl
  · intro take pos hpos
    have taken : exec .plannerAppendFlat s = .next (appendFlat c p st s) := by
      refine (if_neg (by simp [hr])).trans ?_
      rw [piece (by rw [nextEntryAt_flat hcur hst hk]; exact hpos), nextPiece_flat notMark hst hk]
    have append := appendTaken_appendEntry
      ⟨.flat (cur + (pieceTake s c p st).1 - entryPosition s.planner.lastAppended cur) st.spliceOk,
        entryPosition s.planner.lastAppended cur, c.serial⟩
      (planMoved (cur + (pieceTake s c p st).1) (some (p.advance st (pieceTake s c p st).2)) s)
    rw [← appendFlat_eq hcur] at append
    exact ⟨_, taken, append⟩
  · intro pos u hpos
    have taken : exec .plannerAppendPanelEnd s = .next (appendPanelEnd c s) := by
      refine (if_neg (by simp [hr])).trans ?_
      rw [piece (by rw [nextEntryAt_panelEnd hcur hst]; exact hpos), nextPiece_panelEnd notMark hst]
    let m : State := if c.startConsumed then freeContext c.serial u else u
    have plan : m.plan = s.plan := by
      simp only [m]
      split <;> simp [u, planned]
    have append := appendTaken_appendEntry ⟨.panelEnd, entryPosition s.planner.lastAppended cur, c.serial⟩ m
    rw [plan] at append
    refine ⟨m, _, taken, ?_, fun hs => if_neg (by simp [hs]), fun hs x hx => ?_⟩
    · rw [appendPanelEnd_eq hcur]
      exact append
    · have found : u.planner.contexts.find? (fun x => x.serial = c.serial) =
          some (if x.planning.isSome then { x with planning := none } else x) := by
        have same (y : Context) := (context_planMoved none y).1
        change List.find? _ (s.planner.contexts.map _) = _
        rw [List.find?_map]
        simp only [Function.comp_def, same, hx, Option.map_some]
      have slot := (context_planMoved none x).2.2
      have freed : m = freeContext c.serial u := if_pos hs
      rw [freeContext_of_some found] at freed
      rw [slot] at freed
      rw [freed]
      refine ⟨?_, fun i => dropRef_slots _ _ _, dropRef_notices _ _⟩
      rw [dropRef_parts]

/-! ## The beginning of a copy (R40, R41, R45) -/

/-- A copy begins where the plan, the contexts and the list have room, outside DRAINING (R40, R44). -/
theorem plannerBegin_of {s : State} {o : PanelOrder} {rest : List PanelOrder} {h : Header} (hp : s.plan.length < 128)
    (hn : ∀ c ∈ s.planner.contexts, c.planning = none) (hc : s.planner.contexts.length < 8) (ho : s.orders = o :: rest)
    (hh : s.slots[o.slot].header? = some h) (hl : h.repeatLen ≠ 0 → s.marks.list.length < 16)
    (hd : s.run.state ≠ .draining) : plannerBegin s = some (o, h) := by
  have idle {c : Context} {p : PlanningState} (k : CopyPlanned s c p) : False := by
    obtain ⟨x, hx, hplanning⟩ := copyPlanned_some s c p k
    exact hplanning (hn x hx)
  refine (plannerBegin_iff s o h).mpr ⟨⟨hp, ?_, .inr ⟨by simp [ho], hc⟩, fun hd' => hd hd'.1, ?_⟩, hn, by simp [ho], hh⟩
  · rintro ⟨r, hnext, hne, hfull⟩
    rcases hnext with ⟨c, p, k, _⟩ | ⟨_, o', h', ho', hh', rfl⟩
    · exact idle k
    · rw [ho] at ho'
      cases ho'
      cases hh.symm.trans hh'
      exact absurd (hl hne) (Nat.not_lt.mpr hfull)
  · rintro ⟨c, p, k, _⟩
    exact idle k

theorem addRef_slots (j : Fin 16) (s : State) (i : Fin 16) :
    (addRef j s).slots[i] = if i = j then s.slots[i].incRef else s.slots[i] := by
  by_cases h : i = j
  · subst h
    simp [addRef]
  · have : (j : Nat) ≠ i := fun hj => h (Fin.ext hj.symm)
    simp [addRef, h, Vector.getElem_set_ne _ _ this]

/-- The state that a copy's PANEL_START is appended to (R40, R41, R45). -/
def copyBegun (o : PanelOrder) (rest : List PanelOrder) (h : Header) (start : Nat) (s : State) : State :=
  let last := decide (o.copies ≤ o.started + 1)
  let t : State :=
    { addRef o.slot s with
      orders := if last then rest else { o with started := o.started + 1 } :: rest
      planner := { s.planner with
        nextSerial := s.planner.nextSerial + 1, cursor := some start
        contexts := s.planner.contexts ++ [newContext o h s.planner.nextSerial s.marks.k s.tracking.feedTick start] } }
  let u := if last then dropRef o.slot t else t
  if last && rest.isEmpty then raise .queueEmpty u else u

theorem beginCopy_eq {o : PanelOrder} {rest : List PanelOrder} (h : Header) {s : State} (ho : s.orders = o :: rest) :
    beginCopy o h s =
      appendEntry
        ⟨.panelStart, entryPosition s.planner.lastAppended (s.planner.cursor.getD (s.feed.position + 1)), s.planner.nextSerial⟩
        (copyBegun o rest h (s.planner.cursor.getD (s.feed.position + 1)) s) := by
  simp only [beginCopy, ho, List.tail_cons, place_eq]
  cases s.planner.cursor <;> rfl

/-- What the beginning of a copy leaves beside its append. -/
theorem copyBegun_left {o : PanelOrder} (rest : List PanelOrder) (h : Header) (start : Nat) (s : State)
    (hr : s.slots[o.slot].number = 3 → 1 ≤ s.slots[o.slot].refs) :
    let last := decide (o.copies ≤ o.started + 1)
    let t := copyBegun o rest h start s
    t = { s with slots := t.slots, orders := t.orders, planner := t.planner, notices := t.notices } ∧
      t.planner =
        { s.planner with
          nextSerial := s.planner.nextSerial + 1, cursor := some start
          contexts := s.planner.contexts ++ [newContext o h s.planner.nextSerial s.marks.k s.tracking.feedTick start] } ∧
      t.orders = (if last then rest else { o with started := o.started + 1 } :: rest) ∧
      (∀ i, t.slots[i] =
        if i = o.slot then if last then slotReleased 1 s.slots[i].incRef else s.slots[i].incRef else s.slots[i]) ∧
      t.notices = (if last ∧ rest = [] then (raise .queueEmpty s).notices else s.notices) := by
  let w : State :=
    { addRef o.slot s with
      orders := if decide (o.copies ≤ o.started + 1) then rest else { o with started := o.started + 1 } :: rest
      planner := { s.planner with
        nextSerial := s.planner.nextSerial + 1, cursor := some start
        contexts := s.planner.contexts ++ [newContext o h s.planner.nextSerial s.marks.k s.tracking.feedTick start] } }
  have slots : ∀ i, w.slots[i] = if i = o.slot then s.slots[i].incRef else s.slots[i] := addRef_slots o.slot s
  have held : ¬(w.slots[o.slot].number = 3 ∧ w.slots[o.slot].refs ≤ 1) := by
    rw [slots, if_pos rfl]
    cases hs : s.slots[o.slot] with
    | retiring hd st n =>
      rw [hs] at hr
      have : 1 ≤ n := hr rfl
      simp only [Slot.incRef, Slot.number, Slot.refs]
      omega
    | _ => simp [Slot.incRef, Slot.number]
  cases hl : decide (o.copies ≤ o.started + 1) with
  | true =>
    have dropped : (dropRef o.slot w).notices = s.notices := by
      rw [dropRef_notices, if_neg held]
      rfl
    have taken : copyBegun o rest h start s = if rest.isEmpty then raise .queueEmpty (dropRef o.slot w) else dropRef o.slot w := by
      simp only [copyBegun, hl, Bool.true_and, if_true, w]
    have released : ∀ i, (dropRef o.slot w).slots[i] =
        if i = o.slot then slotReleased 1 s.slots[i].incRef else s.slots[i] := fun i => by
      rw [dropRef_slots, slots]
      split <;> rfl
    dsimp only
    rw [taken]
    cases rest with
    | nil =>
      refine ⟨?_, ?_, ?_, released, ?_⟩
      all_goals rw [show (if ([] : List PanelOrder).isEmpty then raise .queueEmpty (dropRef o.slot w) else dropRef o.slot w) =
        raise .queueEmpty (dropRef o.slot w) from rfl]
      · rw [dropRef_parts]
        rfl
      · rw [dropRef_parts]
        rfl
      · rw [dropRef_parts]
        simp [raise, w, hl]
      · simp only [raise, dropped]
        rfl
    | cons x xs =>
      refine ⟨?_, ?_, ?_, released, ?_⟩
      all_goals rw [show (if (x :: xs).isEmpty then raise .queueEmpty (dropRef o.slot w) else dropRef o.slot w) =
        dropRef o.slot w from rfl]
      · rw [dropRef_parts]
        rfl
      · rw [dropRef_parts]
      · rw [dropRef_parts]
        simp [w, hl]
      · simpa using dropped
  | false =>
    have taken : copyBegun o rest h start s = w := by
      simp only [copyBegun, hl, Bool.false_and, Bool.false_eq_true, if_false, w]
    dsimp only
    rw [taken]
    exact ⟨rfl, rfl, by simp only [w, hl], slots, rfl⟩

/-- Settles O19: the copy's beginning, part by part, and its append. -/
theorem copyBegins : Obligations.CopyBegins := by
  intro s o rest h st n hr hp hn hc ho hslot hl hd start pos last
  have header : s.slots[o.slot].header? = some h := by
    rcases hslot with hs | ⟨hs, _⟩ <;> rw [hs] <;> rfl
  have taken : exec .plannerBeginCopy s = .next (beginCopy o h s) := by
    refine (if_neg (by simp [hr])).trans ?_
    rw [plannerBegin_of hp hn hc ho header hl hd]
  have retiring : s.slots[o.slot].number = 3 → 1 ≤ s.slots[o.slot].refs := by
    rcases hslot with hs | ⟨hs, hn⟩ <;> rw [hs]
    · simp [Slot.number]
    · exact fun _ => hn
  obtain ⟨left, planner, orders, slots, notices⟩ := copyBegun_left rest h start s retiring
  have begins : beginCopy o h s =
      appendEntry ⟨.panelStart, pos, s.planner.nextSerial⟩ (copyBegun o rest h start s) := beginCopy_eq h ho
  generalize copyBegun o rest h start s = t at left planner orders slots notices begins
  refine ⟨{ t with plan := t.plan ++ [⟨.panelStart, pos, s.planner.nextSerial⟩]
                   planner := { t.planner with lastAppended := some pos } }, _, taken, ?_, ?_, ?_, ?_, ?_, rfl, ?_, orders,
    fun hs => ?_, fun hs => ?_, fun i hi => ?_, notices⟩
  · rw [begins]
    exact appendTaken_appendEntry ⟨.panelStart, pos, s.planner.nextSerial⟩ t
  · rw [left]
  · rw [left]
  · rw [planner]
  · rw [planner]
  · rw [planner]
    rfl
  · refine (slots o.slot).trans ?_
    rw [if_pos rfl, hs]
    cases hd : decide (o.copies ≤ o.started + 1) <;> simp [last, hd, Slot.incRef, slotReleased]
  · have named : n ≠ 0 := by
      rw [hs] at retiring
      exact Nat.one_le_iff_ne_zero.mp (retiring rfl)
    refine (slots o.slot).trans ?_
    rw [if_pos rfl, hs]
    cases hd : decide (o.copies ≤ o.started + 1) <;> simp [last, hd, Slot.incRef, slotReleased, named]
  · exact (slots i).trans (if_neg hi)

end Sys2Proof.Machine

/-!
References released together, the line clear, and the panel queue's and the store's smaller requests (O32, O34, O35).
-/

namespace Sys2Proof.Machine

/-! ## Notices raised again (R192) -/

theorem insertRanked_idem (n : Notice) (l : List Notice) : insertRanked n (insertRanked n l) = insertRanked n l := by
  induction l with
  | nil => simp [insertRanked]
  | cons m ms ih =>
    unfold insertRanked
    by_cases h : n = m
    · simp [h, insertRanked]
    · by_cases hr : n.rank < m.rank
      · simp [h, hr, insertRanked]
      · simp [h, hr, insertRanked, ih]

theorem deliver_idem (n : Notice) (b : NoticeBox) : (b.deliver n).deliver n = b.deliver n := by
  unfold NoticeBox.deliver
  split
  · simp only [insertRanked_idem]
  · rfl

/-- A code pending already is not delivered twice. -/
theorem raise_idem (n : Notice) (s : State) : raise n (raise n s) = raise n s := by
  simp only [raise, deliver_idem]

theorem raise_notices_congr (n : Notice) {s t : State} (h : t.notices = s.notices) :
    (raise n t).notices = (raise n s).notices := by
  simp only [raise, h]

/-! ## References released together (R25, R26) -/

theorem slotReleased_zero (sl : Slot) : slotReleased 0 sl = sl := by cases sl <;> simp [slotReleased]

theorem slotReleased_add (m n : Nat) (sl : Slot) : slotReleased n (slotReleased m sl) = slotReleased (m + n) sl := by
  cases sl with
  | empty => rfl
  | loading h st => rfl
  | ready h st refs => simp [slotReleased, Nat.sub_sub]
  | retiring h st refs =>
    by_cases hm : 0 < m ∧ refs ≤ m
    · simp [slotReleased, hm]
      omega
    · simp only [slotReleased, if_neg hm, Nat.sub_sub]
      by_cases hn : 0 < n ∧ refs ≤ m + n
      · rw [if_pos (by omega), if_pos (by omega)]
      · rw [if_neg (by omega), if_neg (by omega)]

section
variable {α : Type} (f : α → Fin 16)

/-- The release of one reference for each of a list. -/
def dropRefs (xs : List α) (s : State) : State := xs.foldl (fun u x => dropRef (f x) u) s

theorem dropRefs_cons (x : α) (xs : List α) (s : State) : dropRefs f (x :: xs) s = dropRefs f xs (dropRef (f x) s) := rfl

theorem dropRefs_parts (xs : List α) (s : State) :
    dropRefs f xs s = { s with slots := (dropRefs f xs s).slots, notices := (dropRefs f xs s).notices } := by
  induction xs generalizing s with
  | nil => rfl
  | cons x xs ih =>
    rw [dropRefs_cons, ih, dropRef_parts]

theorem dropRefs_slots (xs : List α) (s : State) (i : Fin 16) :
    (dropRefs f xs s).slots[i] = slotReleased (xs.countP (fun x => f x == i)) s.slots[i] := by
  induction xs generalizing s with
  | nil => exact (slotReleased_zero _).symm
  | cons x xs ih =>
    rw [dropRefs_cons, ih, dropRef_slots, List.countP_cons]
    by_cases h : i = f x
    · simp [h, slotReleased_add, Nat.add_comm]
    · simp [h, Ne.symm h]

/-- Only a RETIRING slot's last reference changes its state (R26). -/
theorem slotReleased_number (sl : Slot) (h : ¬ (sl.number = 3 ∧ sl.refs ≤ 1)) : (slotReleased 1 sl).number = sl.number := by
  cases sl with
  | retiring hd st refs =>
    have more : ¬ (0 < 1 ∧ refs ≤ 1) := fun last => h ⟨rfl, last.2⟩
    simp only [slotReleased, if_neg more]
    rfl
  | _ => rfl

theorem slotReleased_last (n : Nat) (sl : Slot) (hn : 0 < n) (h : sl.number = 3 ∧ sl.refs ≤ 1) : slotReleased n sl = .empty := by
  cases sl with
  | retiring hd st refs => exact if_pos ⟨hn, Nat.le_trans h.2 hn⟩
  | _ => cases h.1

/-- Where a drop releases no slot, the slots' states and the notices stand. -/
theorem dropRef_unreleased (j : Fin 16) (s : State) (h : ¬ (s.slots[j].number = 3 ∧ s.slots[j].refs ≤ 1)) :
    (∀ i : Fin 16, (dropRef j s).slots[i].number = s.slots[i].number) ∧ (dropRef j s).notices = s.notices := by
  refine ⟨fun i => ?_, (dropRef_notices j s).trans (if_neg h)⟩
  rw [dropRef_slots]
  by_cases hi : i = j
  · subst hi
    rw [if_pos rfl, slotReleased_number _ h]
  · rw [if_neg hi]

/-- PATTERN_RELEASED is raised exactly when a RETIRING slot empties (R26). -/
theorem dropRefs_notices (xs : List α) (s : State) :
    ((∃ i : Fin 16, s.slots[i].number = 3 ∧ (dropRefs f xs s).slots[i] = .empty) →
        (dropRefs f xs s).notices = (raise .patternReleased s).notices) ∧
      ((∀ i : Fin 16, s.slots[i].number = 3 → (dropRefs f xs s).slots[i] ≠ .empty) →
        (dropRefs f xs s).notices = s.notices) := by
  induction xs generalizing s with
  | nil =>
    refine ⟨fun ⟨i, hn, he⟩ => ?_, fun _ => rfl⟩
    rw [show s.slots[i] = .empty from he] at hn
    cases hn
  | cons x xs ih =>
    obtain ⟨later, never⟩ := ih (dropRef (f x) s)
    by_cases last : s.slots[f x].number = 3 ∧ s.slots[f x].refs ≤ 1
    · have dropped : (dropRef (f x) s).notices = (raise .patternReleased s).notices :=
        (dropRef_notices (f x) s).trans (if_pos last)
      have emptied : (dropRefs f (x :: xs) s).slots[f x] = .empty := by
        rw [dropRefs_slots]
        exact slotReleased_last _ _ (by simp) last
      refine ⟨fun _ => ?_, fun none_ => absurd emptied (none_ (f x) last.1)⟩
      rw [dropRefs_cons]
      by_cases more : ∃ i : Fin 16, (dropRef (f x) s).slots[i].number = 3 ∧ (dropRefs f xs (dropRef (f x) s)).slots[i] = .empty
      · rw [later more, raise_notices_congr _ dropped, raise_idem]
      · rw [never (fun i hn he => more ⟨i, hn, he⟩), dropped]
    · obtain ⟨numbers, notices⟩ := dropRef_unreleased (f x) s last
      simp only [numbers] at later never
      exact ⟨fun h => (later h).trans (raise_notices_congr _ notices), fun h => (never h).trans notices⟩
end

/-! ## A slot named by a request -/

theorem slotOf_of_gt {n : Nat} (h : 15 < n) : slotOf n = none := dif_neg (by omega)

theorem slotOf_val {n : Nat} {i : Fin 16} (h : n = i.val) : slotOf n = some i := by
  subst h
  exact dif_pos i.isLt

/-! ## DISCARD_PATTERN (R27) -/

/-- Settles O34: the slot's state decides, and the response gives the state reached. -/
theorem patternDiscarded : Obligations.PatternDiscarded := by
  intro s l r h
  have refused {why : ResultCode} := taken_refused (rule := ruleDiscardPattern) (why := why) h
  refine ⟨fun hgt => refused (by simp only [ruleDiscardPattern, slotOf_of_gt hgt]), fun i hi => ?_⟩
  have slot := slotOf_val hi
  refine ⟨fun hn => refused ?_, fun ⟨hd, st, hs⟩ => taken_granted (rule := ruleDiscardPattern) h ?_, fun hd st n hs hn => ?_⟩
  · cases hs : s.slots[i] with
    | empty => simp only [ruleDiscardPattern, slot, grant_slots, hs]
    | retiring => simp only [ruleDiscardPattern, slot, grant_slots, hs]
    | _ => simp [hs, Slot.number] at hn
  · rcases hs with hs | hs
    · simp only [ruleDiscardPattern, slot, grant_slots, hs]
      rfl
    · simp only [ruleDiscardPattern, slot, grant_slots, hs]
      rfl
  · refine taken_granted (rule := ruleDiscardPattern) h ?_
    have count : num 1 (n + 1) = [BitVec.ofNat 8 (n + 1)] := num_one (by omega)
    have state : num 1 (Slot.retiring hd st (n + 1)).number = [3] := rfl
    simp only [ruleDiscardPattern, slot, grant_slots, hs, if_neg (Nat.succ_ne_zero n), optional, count, state]
    rfl

/-! ## QUEUE_PANEL (R35) -/

theorem queuePanel_taken {s : State} {l : Link} {r : QueuedRequest} (h : Taking .queuePanel l r s) :
    (15 < field r.args 0 1 → exec .queuePanel s = .next (refuse l r.code .range (grant l s))) ∧
      ∀ i : Fin 16, field r.args 0 1 = i.val →
        (s.slots[i].number ≠ 2 → exec .queuePanel s = .next (refuse l r.code .slotState (grant l s))) ∧
        ∀ hd st n, s.slots[i] = .ready hd st n →
          let copies := field r.args 5 2
          ((copies = 0 ∨ 999 < copies) → exec .queuePanel s = .next (refuse l r.code .range (grant l s))) ∧
          (1 ≤ copies → copies ≤ 999 → 32 ≤ s.orders.length →
            exec .queuePanel s = .next (refuse l r.code .full (grant l s))) ∧
          (1 ≤ copies → copies ≤ 999 → s.orders.length < 32 →
            exec .queuePanel s =
              .next
                (respond l r.code .granted [BitVec.ofNat 8 (s.orders.length + 1)]
                  { grant l s with
                    orders := s.orders ++ [⟨i, field r.args 1 4, copies, 0⟩]
                    slots := s.slots.set i (.ready hd st (n + 1)) })) := by
  have refused {why : ResultCode} := taken_refused (rule := ruleQueuePanel) (why := why) h
  refine ⟨fun hgt => refused (by simp only [ruleQueuePanel, slotOf_of_gt hgt]), fun i hi => ?_⟩
  have slot := slotOf_val hi
  refine ⟨fun hn => refused ?_, fun hd st n hs => ⟨fun range => refused ?_, fun low high full => refused ?_, fun low high room => ?_⟩⟩
  · have other : s.slots[i].isReady = false := by
      cases hs : s.slots[i] with
      | ready => exact absurd (congrArg Slot.number hs) hn
      | _ => rfl
    simp only [ruleQueuePanel, slot, grant_slots, other]
    rfl
  all_goals have ready : s.slots[i].isReady = true := congrArg Slot.isReady hs
  · have out : inRange 1 999 (field r.args 5 2) = false := by simp [inRange]; omega
    simp only [ruleQueuePanel, slot, grant_slots, ready, out]
    rfl
  all_goals have fits : inRange 1 999 (field r.args 5 2) = true := by simp [inRange, low, high]
  · simpa [ruleQueuePanel, slot, fits, full] using ready
  · refine taken_granted (rule := ruleQueuePanel) h ?_
    have count : num 1 (s.orders.length + 1) = [BitVec.ofNat 8 (s.orders.length + 1)] := num_one (by omega)
    have added : addRef i { grant l s with orders := s.orders ++ [⟨i, field r.args 1 4, field r.args 5 2, 0⟩] } =
        { grant l s with
          orders := s.orders ++ [⟨i, field r.args 1 4, field r.args 5 2, 0⟩]
          slots := s.slots.set i (.ready hd st (n + 1)) } := by
      simp only [addRef, grant_slots, hs, Slot.incRef]
    rw [← added, ← count]
    simpa [ruleQueuePanel, slot, fits, Nat.not_le.mpr room] using ready

/-! ## CANCEL_PANEL (R36, R38) -/

theorem orders_kept_empty (orders : List PanelOrder) (tag : Nat) :
    (orders.filter (fun o => o.tag != tag)).isEmpty = true ↔ ∀ o ∈ orders, o.tag = tag := by
  simp

/-- The notices of a cancel: QUEUE_EMPTY where no entry is left, PATTERN_RELEASED where a slot empties. -/
theorem cancelOrders_delivered (tag : Nat) (s : State) :
    Delivered
      (fun n =>
        (n = .queueEmpty ∧ ∀ o ∈ s.orders, o.tag = tag) ∨
          (n = .patternReleased ∧ ∃ i : Fin 16, s.slots[i].number = 3 ∧ (cancelOrders tag s).slots[i] = .empty))
      s (cancelOrders tag s) := by
  let u : State := { s with orders := s.orders.filter (fun o => o.tag != tag) }
  let t := dropRefs PanelOrder.slot (s.orders.filter (fun o => o.tag == tag)) u
  have slots : (cancelOrders tag s).slots = t.slots := by
    unfold cancelOrders
    dsimp only
    split <;> rfl
  have released : Delivered (fun n => n = .patternReleased ∧ ∃ i : Fin 16, s.slots[i].number = 3 ∧ t.slots[i] = .empty) s t := by
    obtain ⟨some_, none_⟩ := dropRefs_notices PanelOrder.slot (s.orders.filter (fun o => o.tag == tag)) u
    by_cases he : ∃ i : Fin 16, s.slots[i].number = 3 ∧ t.slots[i] = .empty
    · exact (delivered_raise .patternReleased u).congr (fun n => (and_iff_left he).symm) rfl (some_ he)
    · exact (Delivered.refl s).congr (fun n => ⟨False.elim, fun h => he h.2⟩) rfl (none_ (fun i hn ht => he ⟨i, hn, ht⟩))
  rw [slots]
  by_cases hk : (s.orders.filter (fun o => o.tag != tag)).isEmpty = true
  · have cancelled : cancelOrders tag s = raise .queueEmpty t := if_pos hk
    rw [cancelled]
    have all := (orders_kept_empty s.orders tag).mp hk
    exact (released.trans (delivered_raise .queueEmpty t)).congr
      (fun n => or_comm.trans (or_congr_left (and_iff_left all).symm)) rfl rfl
  · have cancelled : cancelOrders tag s = t := if_neg hk
    rw [cancelled]
    have all := mt (orders_kept_empty s.orders tag).mpr hk
    exact released.congr (fun n => (or_iff_right (fun h => all h.2)).symm) rfl rfl

/-- What a cancel leaves: the entries of the tag gone and their slots released (R36). -/
theorem cancelOrders_parts (tag : Nat) (s : State) :
    cancelOrders tag s =
        { s with
          orders := s.orders.filter (fun o => o.tag != tag)
          slots := (cancelOrders tag s).slots, notices := (cancelOrders tag s).notices } ∧
      ∀ i : Fin 16, (cancelOrders tag s).slots[i] =
        slotReleased (s.orders.countP (fun o => o.tag == tag && o.slot == i)) s.slots[i] := by
  let u : State := { s with orders := s.orders.filter (fun o => o.tag != tag) }
  have parts := dropRefs_parts PanelOrder.slot (s.orders.filter (fun o => o.tag == tag)) u
  have slots := dropRefs_slots PanelOrder.slot (s.orders.filter (fun o => o.tag == tag)) u
  simp only [List.countP_filter, Bool.and_comm] at slots
  by_cases hk : (s.orders.filter (fun o => o.tag != tag)).isEmpty = true
  · have cancelled : cancelOrders tag s =
        raise .queueEmpty (dropRefs PanelOrder.slot (s.orders.filter (fun o => o.tag == tag)) u) := if_pos hk
    rw [cancelled]
    exact ⟨by rw [parts]; rfl, slots⟩
  · have cancelled : cancelOrders tag s = dropRefs PanelOrder.slot (s.orders.filter (fun o => o.tag == tag)) u := if_neg hk
    rw [cancelled]
    exact ⟨parts, slots⟩

/-- Settles O35: QUEUE_PANEL's checks come one by one; a cancel's releases are those of the entries that it removes. -/
theorem panelOrders : Obligations.PanelOrders := by
  intro s l r
  refine ⟨queuePanel_taken, fun h => ⟨fun absent => ?_, fun ⟨o, ho, ht⟩ => ?_⟩⟩
  · refine taken_refused (rule := ruleCancelPanel) h (if_pos ?_)
    simpa using absent
  · obtain ⟨parts, slots⟩ := cancelOrders_parts (field r.args 0 4) (grant l s)
    refine ⟨cancelOrders (field r.args 0 4) (grant l s), ?_, parts, slots, cancelOrders_delivered _ (grant l s)⟩
    refine taken_granted (rule := ruleCancelPanel) h ?_
    have found : (s.orders.filter (fun o => o.tag == field r.args 0 4)).isEmpty = false := by
      simpa using ⟨o, ho, ht⟩
    simp only [ruleCancelPanel, grant_orders, found, List.countP_eq_length_filter, outstanding]
    rfl

/-! ## The line clear (R106) -/

/-- The splice record after a line clear (R175). -/
theorem splice_cleared (u : UnwindUnit) (feed : Nat) :
    (∀ i x f, u.splice = .planned .request i x f → Splice.cleared u feed = .due .request) ∧
      (∀ i x f, u.splice = .planned .reserve i x f →
        (∀ roll, runningRoll u = some roll → roll.length ≤ u.settings.changeReserve → Splice.cleared u feed = .due .reserve) ∧
        (∀ roll, runningRoll u = some roll → u.settings.changeReserve < roll.length → Splice.cleared u feed = .idle)) ∧
      (∀ d i x f fa kn, u.splice = .fired d i x f fa kn → Splice.cleared u feed = .fired d i x f fa (kn - feed)) ∧
      ((u.splice = .idle ∨ (∃ d, u.splice = .due d) ∨ ∃ d i x f fa kn, u.splice = .cutting d i x f fa kn) →
        Splice.cleared u feed = u.splice) := by
  refine ⟨fun i x f h => ?_, fun i x f h => ⟨fun roll hr hl => ?_, fun roll hr hl => ?_⟩, fun d i x f fa kn h => ?_, fun h => ?_⟩
  · simp only [Splice.cleared, h]
  · simp only [Splice.cleared, h, hr, if_pos hl]
  · simp only [Splice.cleared, h, hr, if_neg (Nat.not_le.mpr hl)]
  · simp only [Splice.cleared, h]
  · rcases h with h | ⟨d, h⟩ | ⟨d, i, x, f, fa, kn, h⟩ <;> simp only [Splice.cleared, h]

/-- The planner cleared: every context's reference released (R33, R43, R45, R56). -/
theorem clearPlanner_eq (s : State) :
    clearPlanner s =
      dropRefs Context.slot s.planner.contexts
        { s with plan := [], planner := { s.planner with contexts := [], cursor := none, lastAppended := none } } := rfl

/-- Settles O32: each block clears its own state, the slots by the releases of the contexts. -/
theorem lineClearTaken : Obligations.LineClear := by
  intro s l r h
  refine ⟨fun hp => ?_, fun hp hplan hctx hseg => ?_⟩
  · refine taken_refused (rule := ruleClearLine) h (if_neg ?_)
    simp [atRest_eq, hp]
  · let v : State :=
      { clearPositions (grant l s) with
        plan := [], planner := { s.planner with contexts := [], cursor := none, lastAppended := none } }
    have parts := dropRefs_parts Context.slot s.planner.contexts v
    obtain ⟨released, kept⟩ := dropRefs_notices Context.slot s.planner.contexts v
    have slots := dropRefs_slots Context.slot s.planner.contexts v
    have cleared : lineClear (grant l s) =
        clearUnwind s.feed.position (clearMap (clearHead (clearMarks (dropRefs Context.slot s.planner.contexts v)))) := rfl
    obtain ⟨request, reserve, fired, stands⟩ := splice_cleared s.unwind s.feed.position
    refine ⟨lineClear (grant l s), ?_, ?_, ?_⟩
    · refine taken_granted (rule := ruleClearLine) h ?_
      have rest : atRest (grant l s) = true := by simp [atRest_eq, hp]
      simp only [ruleClearLine, rest, grant_plan, grant_planner, grant_map, num_one hplan, num_one hctx, num_one hseg]
      rfl
    · rw [cleared, parts]
      rfl
    · rw [cleared, parts]
      exact ⟨slots, released, kept, request, reserve, fired, stands⟩

end Sys2Proof.Machine

/-!
Loading a pattern: OPEN_PATTERN, the bit string of ADD_STEPS, and CLOSE_PATTERN (O33).
-/

namespace Sys2Proof.Machine

/-! ## The bit string of a request's bytes (R196) -/

theorem leNat_testBit (bs : List Byte) (i : Nat) : (leNat bs).testBit i = (bs.getD (i / 8) 0).getLsbD (i % 8) := by
  induction bs generalizing i with
  | nil => simp [leNat]
  | cons b bs ih =>
    have split_ : leNat (b :: bs) = 2 ^ 8 * leNat bs + b.toNat := by simp only [leNat]; omega
    rw [split_, Nat.testBit_two_pow_mul_add _ b.isLt]
    by_cases hi : i < 8
    · have byte : i / 8 = 0 := by omega
      have bit : i % 8 = i := by omega
      simp [hi, byte, bit, BitVec.getLsbD]
    · have byte : i / 8 = (i - 8) / 8 + 1 := by omega
      have bit : i % 8 = (i - 8) % 8 := by omega
      rw [if_neg hi, ih, byte, bit, List.getD_cons_succ]

theorem mod_two_pow_eq_sum (x w : Nat) :
    x % 2 ^ w = ((List.range w).map (fun j => if x.testBit j then 2 ^ j else 0)).sum := by
  induction w with
  | zero => simp [Nat.mod_one]
  | succ w ih =>
    rw [Nat.mod_pow_succ, ← Nat.toNat_testBit, List.range_succ, List.map_append, List.sum_append, ih]
    cases h : x.testBit w <;> simp [h]

/-- A bit field is the sum of its bits. -/
theorem bitField_eq_sum (x at_ w : Nat) :
    bitField x at_ w = ((List.range w).map (fun j => if x.testBit (at_ + j) then 2 ^ j else 0)).sum := by
  simp only [bitField, mod_two_pow_eq_sum, Nat.testBit_div_two_pow, Nat.add_comm]

theorem bitField_one (x at_ : Nat) : (bitField x at_ 1 == 1) = x.testBit at_ := by
  rw [bitField_eq_sum]
  cases h : x.testBit at_ <;> simp [h]

/-- An ADD_STEPS of an admitted length carries 1 to 8 steps, padded to whole bytes. -/
theorem stepsCarried_pos {length : Nat} (h : stepsCarried length ≠ 0) :
    1 ≤ stepsCarried length ∧ stepsCarried length ≤ 8 ∧ length = (4 + 59 * stepsCarried length + 7) / 8 := by
  unfold stepsCarried at h ⊢
  cases found : (List.range 9).find? (fun n => n ≠ 0 && stepsLength n == length) with
  | none => exact absurd (congrArg (Option.getD · 0) found) h
  | some n =>
    have small := List.mem_range.mp (List.mem_of_find?_eq_some found)
    have holds := List.find?_some found
    simp only [Bool.and_eq_true, decide_eq_true_eq, beq_iff_eq, stepsLength, ne_eq] at holds
    simp only [Option.getD_some]
    exact ⟨Nat.one_le_iff_ne_zero.mpr holds.1, by omega, holds.2.symm⟩

/-! ## The pool (R22) -/

theorem stepsHeld_set (slots : Vector Slot 16) (i : Fin 16) (sl : Slot) :
    stepsHeld (slots.set i sl) + slots[i].steps.length = stepsHeld slots + sl.steps.length := by
  have hi : i.val < (slots.toList.map (fun sl => sl.steps.length)).length := by simp
  have whole := List.sum_set (slots.toList.map (fun sl => sl.steps.length)) i.val slots[i].steps.length
  have same : (slots.toList.map (fun sl => sl.steps.length)).set i.val slots[i].steps.length =
      slots.toList.map (fun sl => sl.steps.length) := by
    apply List.ext_getElem (by simp)
    intro j h₁ h₂
    rw [List.getElem_set]
    split
    · rename_i hj
      subst hj
      simp
    · rfl
  rw [same, if_pos hi] at whole
  have changed := List.sum_set (slots.toList.map (fun sl => sl.steps.length)) i.val sl.steps.length
  rw [if_pos hi] at changed
  have set_ : stepsHeld (slots.set i sl) =
      ((slots.toList.map (fun sl => sl.steps.length)).set i.val sl.steps.length).sum := by
    simp only [stepsHeld, Vector.toList_set, List.map_set]
  rw [set_, changed, stepsHeld, whole]
  omega

theorem poolFree_addSteps {slots : Vector Slot 16} {i : Fin 16} {h : Header} {st added : List PatternStep}
    (hs : slots[i] = .loading h st) :
    poolFree (slots.set i (.loading h (st ++ added))) = poolFree slots - added.length := by
  have held := stepsHeld_set slots i (.loading h (st ++ added))
  rw [hs] at held
  simp only [Slot.steps, List.length_append] at held
  unfold poolFree
  omega

/-! ## OPEN_PATTERN (R20) -/

theorem leNat_lt (bs : List Byte) : leNat bs < 256 ^ bs.length := by
  induction bs with
  | nil => simp [leNat]
  | cons b bs ih =>
    have byte := b.isLt
    rw [leNat, List.length_cons, Nat.pow_succ]
    omega

theorem field_lt (args : List Byte) (at_ width : Nat) : field args at_ width < 256 ^ width :=
  (leNat_lt _).trans_le (Nat.pow_le_pow_right (by decide) (List.length_take_le _ _))

/-- The ranges of 2.2. -/
theorem headerOf_valid_iff (args : List Byte) :
    (headerOf args).valid = true ↔
      (field args 3 3 = 0 ∨
          (10000 ≤ field args 3 3 ∧ field args 3 3 ≤ 2000000 ∧ 20 ≤ field args 8 2 ∧ field args 8 2 ≤ 5000)) ∧
        field args 6 2 ≤ 2000 ∧ field args 10 2 ≤ 2000 ∧ field args 12 3 ≤ field args 15 3 ∧ field args 18 2 ≤ 2000 := by
  have fits : field args 15 3 ≤ 16777215 := Nat.le_of_lt_succ (field_lt args 15 3)
  by_cases hr : field args 3 3 = 0
  · simp [Header.valid, headerOf, inRange, hr, and_assoc, fits]
  · simp [Header.valid, headerOf, inRange, hr, and_assoc, fits]

theorem openPattern_taken {s : State} {l : Link} {r : QueuedRequest} (h : Taking .openPattern l r s) :
    (15 < field r.args 0 1 → exec .openPattern s = .next (refuse l r.code .range (grant l s))) ∧
      ∀ i : Fin 16, field r.args 0 1 = i.val →
        (s.slots[i] ≠ .empty → exec .openPattern s = .next (refuse l r.code .slotState (grant l s))) ∧
        (s.slots[i] = .empty →
          (¬ (headerOf r.args).valid = true → exec .openPattern s = .next (refuse l r.code .range (grant l s))) ∧
          ((headerOf r.args).valid = true →
            exec .openPattern s =
              .next
                (respond l r.code .granted [BitVec.ofNat 8 i.val]
                  { grant l s with slots := s.slots.set i (.loading (headerOf r.args) []) }))) := by
  have refused {why : ResultCode} := taken_refused (rule := ruleOpenPattern) (why := why) h
  refine ⟨fun hgt => refused (by simp only [ruleOpenPattern, slotOf_of_gt hgt]), fun i hi => ?_⟩
  have slot := slotOf_val hi
  refine ⟨fun hn => refused ?_, fun hs => ⟨fun invalid => refused ?_, fun valid => taken_granted (rule := ruleOpenPattern) h ?_⟩⟩
  · cases hs : s.slots[i] with
    | empty => exact absurd hs hn
    | _ => simp only [ruleOpenPattern, slot, grant_slots, hs]
  · simp only [ruleOpenPattern, slot, grant_slots, hs, if_neg invalid]
  · have number : num 1 i.val = [BitVec.ofNat 8 i.val] := num_one (by omega)
    simp only [ruleOpenPattern, slot, grant_slots, hs, if_pos valid, number]
    rfl

/-! ## ADD_STEPS (R21 to R23) -/

theorem patternStep_eq {x y : PatternStep} (kind : x.kind = y.kind) (pitch : x.pitch = y.pitch) (waist : x.waist = y.waist)
    (hem : x.hem = y.hem) (count : x.count = y.count) (splice : x.spliceOk = y.spliceOk) : x = y := by
  cases x
  cases y
  simp_all

/-- The check of one step (R21). -/
theorem patternStep_valid_iff (x : PatternStep) :
    x.valid = true ↔
      (1 ≤ x.count ∧ x.count ≤ 255) ∧
        (x.kind ≠ .accordion → 1000 ≤ x.pitch ∧ x.pitch ≤ 99999) ∧
        (x.kind ≠ .flat → x.waist ≤ 40000 ∧ x.hem ≤ 40000) ∧ (x.kind = .accordion → 500 ≤ max x.waist x.hem) := by
  cases hk : x.kind <;> simp [PatternStep.valid, hk, inRange, and_assoc]

theorem addSteps_taken {s : State} {l : Link} {r : QueuedRequest} (h : Taking .addSteps l r s) :
    ((∀ hd st, s.slots[addStepsSlot r.args] ≠ .loading hd st) →
      exec .addSteps s = .next (refuse l r.code .slotState (grant l s))) ∧
    ∀ hd st, s.slots[addStepsSlot r.args] = .loading hd st →
      ((∃ x ∈ stepsOf r.args, ¬ x.valid = true) → exec .addSteps s = .next (refuse l r.code .range (grant l s))) ∧
      ((∀ x ∈ stepsOf r.args, x.valid = true) →
        (poolFree s.slots < (stepsOf r.args).length ∨ 128 < st.length + (stepsOf r.args).length) →
        exec .addSteps s = .next (refuse l r.code .full (grant l s))) ∧
      ((∀ x ∈ stepsOf r.args, x.valid = true) → (stepsOf r.args).length ≤ poolFree s.slots →
        st.length + (stepsOf r.args).length ≤ 128 →
        exec .addSteps s =
          .next
            (respond l r.code .granted
              (num 1 (st.length + (stepsOf r.args).length) ++ num 2 (poolFree s.slots - (stepsOf r.args).length))
              { grant l s with
                slots := s.slots.set (addStepsSlot r.args)
                  (.loading hd (st ++ (stepsOf r.args).map PatternStep.stored)) })) := by
  have refused {why : ResultCode} := taken_refused (rule := ruleAddSteps) (why := why) h
  refine ⟨fun hn => refused ?_, fun hd st hs => ⟨fun ⟨x, hx, hv⟩ => refused ?_, fun valid full => refused ?_, fun valid pool room => ?_⟩⟩
  · cases hs : s.slots[addStepsSlot r.args] with
    | loading hd st => exact absurd hs (hn hd st)
    | _ => simp only [ruleAddSteps, grant_slots, hs]
  · have some_ : (stepsOf r.args).all PatternStep.valid = false := List.all_eq_false.mpr ⟨x, hx, hv⟩
    simp only [ruleAddSteps, grant_slots, hs, some_]
    rfl
  all_goals have all : (stepsOf r.args).all PatternStep.valid = true := List.all_eq_true.mpr valid
  · simp [ruleAddSteps, hs, all, full]
  · have fits : ¬ (poolFree s.slots < (stepsOf r.args).length ∨ 128 < st.length + (stepsOf r.args).length) := by omega
    have pool := poolFree_addSteps (added := (stepsOf r.args).map PatternStep.stored) hs
    rw [List.length_map] at pool
    refine taken_granted (rule := ruleAddSteps) h ?_
    simp only [ruleAddSteps, grant_slots, hs, all, if_neg fits, setSlot, pool]
    rfl

/-! ## CLOSE_PATTERN (R24) -/

theorem closePattern_taken {s : State} {l : Link} {r : QueuedRequest} (h : Taking .closePattern l r s) :
    (15 < field r.args 0 1 → exec .closePattern s = .next (refuse l r.code .range (grant l s))) ∧
      ∀ i : Fin 16, field r.args 0 1 = i.val →
        ((∀ hd st, s.slots[i] ≠ .loading hd st) →
          exec .closePattern s = .next (refuse l r.code .slotState (grant l s))) ∧
        ∀ hd st, s.slots[i] = .loading hd st →
          ((∀ x ∈ st, x.kind = .flat) → exec .closePattern s = .next (refuse l r.code .invalid (grant l s))) ∧
          ((∃ x ∈ st, x.kind ≠ .flat) →
            exec .closePattern s =
              .next
                (respond l r.code .granted (num 1 st.length)
                  { grant l s with slots := s.slots.set i (.ready hd st 0) })) := by
  have refused {why : ResultCode} := taken_refused (rule := ruleClosePattern) (why := why) h
  refine ⟨fun hgt => refused (by simp only [ruleClosePattern, slotOf_of_gt hgt]), fun i hi => ?_⟩
  have slot := slotOf_val hi
  refine ⟨fun hn => refused ?_, fun hd st hs => ⟨fun flat => refused ?_, fun ⟨x, hx, hk⟩ => taken_granted (rule := ruleClosePattern) h ?_⟩⟩
  · cases hs : s.slots[i] with
    | loading hd st => exact absurd hs (hn hd st)
    | _ => simp only [ruleClosePattern, slot, grant_slots, hs]
  · have none_ : closable st = false := by simpa [closable] using flat
    simp only [ruleClosePattern, slot, grant_slots, hs, none_]
    rfl
  · have some_ : closable st = true := by simpa [closable] using ⟨x, hx, hk⟩
    simp only [ruleClosePattern, slot, grant_slots, hs, some_]
    rfl

/-! ## The obligation -/

/-- Settles O33: each request's checks come one by one; the steps of an ADD_STEPS are bit fields, each the sum of its bits. -/
theorem patternLoading : Obligations.PatternLoading := by
  intro s l r
  refine ⟨fun h => ?_, fun h => ?_, closePattern_taken⟩
  · obtain ⟨range, named⟩ := openPattern_taken h
    refine ⟨range, fun i hi => ?_⟩
    obtain ⟨occupied, empty⟩ := named i hi
    refine ⟨occupied, fun hs => ?_⟩
    obtain ⟨invalid, valid⟩ := empty hs
    exact ⟨fun illegal => invalid (mt (headerOf_valid_iff _).mp illegal), fun legal => valid ((headerOf_valid_iff _).mpr legal)⟩
  · intro bit bits carried legal kept
    have lengths : RequestCode.addSteps.lengthOk r.args.length = true := h.2.2.2.2.2.2
    obtain ⟨low, high, padded⟩ := stepsCarried_pos (length := r.args.length) (by simpa [RequestCode.lengthOk] using lengths)
    have bits_eq (from_ width : Nat) : bits from_ width = bitField (leNat r.args) from_ width := by
      rw [bitField_eq_sum]
      simp only [bits, bit, leNat_testBit]
    have carried_eq : carried = stepAt (leNat r.args) := by
      funext i
      have kind : (carried i).kind = (stepAt (leNat r.args) i).kind := by
        simp only [carried, stepAt, bit, ← leNat_testBit, bitField_eq_sum]
        cases h₀ : (leNat r.args).testBit (4 + 59 * i) <;> cases h₁ : (leNat r.args).testBit (4 + 59 * i + 1) <;>
          simp [List.range_succ, h₀, h₁, stepKindOf]
      have splice : (carried i).spliceOk = (stepAt (leNat r.args) i).spliceOk := by
        simp only [carried, stepAt, bit, ← leNat_testBit, bitField_one]
      refine patternStep_eq kind ?_ ?_ ?_ ?_ splice <;> exact bits_eq _ _
    have kept_eq : kept = PatternStep.stored := by
      funext x
      obtain ⟨kind, pitch, waist, hem, count, spliceOk⟩ := x
      cases kind <;> rfl
    have legal_iff (x : PatternStep) : legal x ↔ x.valid = true := (patternStep_valid_iff x).symm
    refine ⟨stepsCarried r.args.length, low, high, padded, fun i hi => ?_⟩
    intro added
    have added_eq : added = stepsOf r.args := by simp only [added, carried_eq, stepsOf]
    have count : (stepsOf r.args).length = stepsCarried r.args.length := by simp [stepsOf]
    have slot : i = addStepsSlot r.args := by
      apply Fin.ext
      rw [hi, bits_eq]
      simp [bitField, addStepsSlot]
    rw [slot, added_eq, kept_eq, ← count]
    simp only [legal_iff]
    exact addSteps_taken h

end Sys2Proof.Machine

/-!
The arbiter's choice, the checks of the links, and the requests of the links themselves (O46, O47, O48).
-/

namespace Sys2Proof.Machine

/-! ## The arbiter (R181) -/

/-- The search takes the first promoted link, or, with none promoted, the first with a request. -/
theorem search_first {p w : Link → Bool} {l : Link}
    (h : (if p .line then some Link.line else if p .unwind then some .unwind else if p .pattern then some .pattern
      else if w .line then some .line else if w .unwind then some .unwind else if w .pattern then some .pattern else none) = some l) :
    ((∃ m, p m = true) → p l = true ∧ (l = .unwind → ¬ p .line = true) ∧ (l = .pattern → ¬ p .line = true ∧ ¬ p .unwind = true)) ∧
      ((∀ m, ¬ p m = true) →
        w l = true ∧ (l = .unwind → ¬ w .line = true) ∧ (l = .pattern → ¬ w .line = true ∧ ¬ w .unwind = true)) := by
  refine ⟨fun ⟨m, hm⟩ => ?_, fun none_ => ?_⟩
  · have some_ : p .line = true ∨ p .unwind = true ∨ p .pattern = true := by cases m <;> simp [hm]
    cases l <;> grind
  · simp only [none_] at h
    cases l <;> grind

/-- Settles O46: the choice is a search of the fixed order, the promoted links first. -/
theorem arbiterChoice : Obligations.ArbiterChoice := by
  intro s
  refine ⟨?_, fun l hl => ?_, fun l m => grant_get l m s⟩
  · simp only [grantee_eq, ← waits_iff]
    constructor
    · intro h l
      cases l <;> grind
    · intro h
      simp [promoted, h]
  · rw [grantee_eq] at hl
    have search := search_first hl
    simp only [promoted_iff, waits_iff] at search
    exact search

/-! ## The table of request codes (12.3) -/

theorem stepsCarried_ne_zero_iff (n : Nat) : stepsCarried n ≠ 0 ↔ n ∈ [8, 16, 23, 30, 38, 45, 53, 60] := by
  constructor
  · intro h
    obtain ⟨low, high, length⟩ := stepsCarried_pos h
    generalize stepsCarried n = k at low high length
    interval_cases k <;> simp [length]
  · intro h
    fin_cases h <;> decide

theorem requestTable_requests : ∀ row ∈ requestTable,
    requestOf row.code = some row.request ∧ row.request.command = row.command := by
  simp [requestTable, lineRequests, patternRequests, unwindRequests, sharedRequests, requestOf, RequestCode.command]

theorem requestTable_links : ∀ row ∈ requestTable, ∀ l, row.request.acceptedOn l = true ↔ l ∈ row.links := by
  have line : ∀ row ∈ requestTable, (row.request.acceptedOn .line = true ↔ .line ∈ row.links) := by decide
  have pattern : ∀ row ∈ requestTable, (row.request.acceptedOn .pattern = true ↔ .pattern ∈ row.links) := by decide
  have unwind : ∀ row ∈ requestTable, (row.request.acceptedOn .unwind = true ↔ .unwind ∈ row.links) := by decide
  intro row hrow l
  cases l
  · exact line row hrow
  · exact pattern row hrow
  · exact unwind row hrow

theorem requestTable_lengths : ∀ row ∈ requestTable, ∀ n, row.request.lengthOk n = true ↔ n ∈ row.lengths := by
  have addSteps := stepsCarried_ne_zero_iff
  simp only [List.mem_cons, List.not_mem_nil, or_false] at addSteps
  simp [requestTable, lineRequests, patternRequests, unwindRequests, sharedRequests, RequestCode.lengthOk, addSteps]

theorem requestOf_of_unlisted (n : Nat) (h : ∀ row ∈ requestTable, row.code ≠ n) : requestOf n = none := by
  have small : ∀ n < 64, (∀ row ∈ requestTable, row.code ≠ n) → requestOf n = none := by decide
  by_cases hn : n < 64
  · exact small n hn h
  · obtain ⟨m, rfl⟩ := Nat.exists_eq_add_of_le' (Nat.not_lt.mp hn)
    rfl

/-! ## The checks of the links (R183, R184) -/

/-- Every request's command is the taking of that request. -/
theorem exec_command (c : RequestCode) (s : State) : ∃ rule, exec c.command s = .next (takeRequest c rule s) := by
  cases c <;> exact ⟨_, rfl⟩

theorem takeRequest_role {c : RequestCode} (rule : Link → List Byte → State → Reply) {s : State} {l : Link} {r : QueuedRequest}
    (hr : s.inReset = false) (hg : grantee s = some l) (hq : (s.links.get l).requests.head? = some r)
    (hc : requestOf r.code.toNat = some c) (ha : c.acceptedOn l = false) :
    takeRequest c rule s = refuse l r.code .role (grant l s) := by
  obtain ⟨rest, hq⟩ := List.head?_eq_some_iff.mp hq
  simp [takeRequest, hr, hg, hq, hc, ha]

theorem takeRequest_length {c : RequestCode} (rule : Link → List Byte → State → Reply) {s : State} {l : Link} {r : QueuedRequest}
    (hr : s.inReset = false) (hg : grantee s = some l) (hq : (s.links.get l).requests.head? = some r)
    (hc : requestOf r.code.toNat = some c) (ha : c.acceptedOn l = true)
    (hl : r.overLength = true ∨ c.lengthOk r.args.length = false) :
    takeRequest c rule s = refuse l r.code .length (grant l s) := by
  obtain ⟨rest, hq⟩ := List.head?_eq_some_iff.mp hq
  simp [takeRequest, hr, hg, hq, hc, ha, hl]

theorem takeUnassigned_unknown {s : State} {l : Link} {r : QueuedRequest} (hr : s.inReset = false) (hg : grantee s = some l)
    (hq : (s.links.get l).requests.head? = some r) (hc : requestOf r.code.toNat = none) :
    takeUnassigned s = refuse l r.code .unknown (grant l s) := by
  obtain ⟨rest, hq⟩ := List.head?_eq_some_iff.mp hq
  simp [takeUnassigned, hr, hg, hq, hc]

/-- A fault recorded on an empty capture, and one only counted (R184). -/
theorem recordFault_empty (l : Link) (code : Option Byte) (why : ResultCode) {s : State} (h : s.capture.record = none) :
    recordFault l code why s =
      { s with
        capture := ⟨some ⟨l, code, why, s.lineTime⟩, countTo 65535 s.capture.count⟩
        notices := (raise .faultCaptured s).notices } := by
  simp only [recordFault, h]
  rfl

theorem recordFault_full (l : Link) (code : Option Byte) (why : ResultCode) {s : State} {c : CaptureRecord}
    (h : s.capture.record = some c) :
    recordFault l code why s = { s with capture := ⟨some c, countTo 65535 s.capture.count⟩ } := by
  simp only [recordFault, h]

/-- What a recorded fault leaves unchanged. -/
theorem recordFault_parts (l : Link) (code : Option Byte) (why : ResultCode) (s : State) :
    recordFault l code why s =
      { s with capture := (recordFault l code why s).capture, notices := (recordFault l code why s).notices } := by
  cases h : s.capture.record with
  | none => rw [recordFault_empty l code why h]
  | some c => rw [recordFault_full l code why h]

/-- Settles O47: the table row by row; a refusal is a response without data and a recorded fault. -/
theorem linkChecks : Obligations.LinkChecks := by
  refine ⟨fun row hrow => ?_, requestOf_of_unlisted, fun l code why s => ⟨recordFault_empty l code why, fun c => recordFault_full l code why⟩,
    fun l code why data s => ⟨rfl, rfl⟩, fun s l r hr hg hq => ⟨fun hc => ?_, fun c hc ha => ?_, fun c hc ha hl => ?_, fun why => ?_⟩⟩
  · obtain ⟨request, command⟩ := requestTable_requests row hrow
    exact ⟨request, command, requestTable_links row hrow, requestTable_lengths row hrow⟩
  · exact congrArg Host.Outcome.next (takeUnassigned_unknown hr hg hq hc)
  · obtain ⟨rule, taken⟩ := exec_command c s
    rw [taken, takeRequest_role rule hr hg hq hc ha]
  · obtain ⟨rule, taken⟩ := exec_command c s
    rw [taken, takeRequest_length rule hr hg hq hc ha hl]
  · have own : ((grant l s).links.get l).responses = (s.links.get l).responses := by
      rw [grant_get, if_pos rfl]
    rw [← own]
    exact recordFault_parts l (some r.code) why (respond l r.code why [] (grant l s))

/-- A grant leaves the requests of the links that it does not choose (R181). -/
theorem grant_requests_other {l m : Link} (s : State) (h : m ≠ l) :
    ((grant l s).links.get m).requests = (s.links.get m).requests := by
  rw [grant_get, if_neg h]
  split <;> rfl

/-! ## SET_LINKS, READ_FAULT and TAKE_REPORT (R188, R185, R124) -/

theorem setLinks_taken {s : State} {l : Link} {r : QueuedRequest} (h : Taking .setLinks l r s) :
    (s.links.pattern.requests ≠ [] ∨ s.links.unwind.requests ≠ [] →
      exec .setLinks s = .next (refuse l r.code .state (grant l s))) ∧
    (s.links.pattern.requests = [] → s.links.unwind.requests = [] →
      (field r.args 0 1 < 2 ∨ 15 < field r.args 0 1 →
        exec .setLinks s = .next (refuse l r.code .range (grant l s))) ∧
      (2 ≤ field r.args 0 1 → field r.args 0 1 ≤ 15 →
        exec .setLinks s =
          .next (respond l r.code .granted [] { grant l s with starvation := field r.args 0 1 }))) := by
  have refused {why : ResultCode} := taken_refused (rule := ruleSetLinks) (why := why) h
  obtain ⟨_, _, _, _, accepted, _, _⟩ := id h
  have line : l = .line := by simpa [RequestCode.acceptedOn] using accepted
  have pattern : (grant l s).links.pattern.requests = s.links.pattern.requests :=
    grant_requests_other (m := .pattern) s (by simp [line])
  have unwind : (grant l s).links.unwind.requests = s.links.unwind.requests :=
    grant_requests_other (m := .unwind) s (by simp [line])
  refine ⟨fun busy => refused ?_, fun hp hu => ⟨fun out => refused ?_, fun low high => taken_granted (rule := ruleSetLinks) h ?_⟩⟩
  · have waiting : (s.links.pattern.requests.isEmpty && s.links.unwind.requests.isEmpty) = false := by
      rw [← Bool.not_eq_true]
      simpa using fun hp hu => busy.elim (absurd hp) (absurd hu)
    simp only [ruleSetLinks, pattern, unwind, waiting]
    rfl
  · have outside : inRange 2 15 (field r.args 0 1) = false := by simp [inRange]; omega
    simp [ruleSetLinks, pattern, unwind, hp, hu, outside]
  · have fits : inRange 2 15 (field r.args 0 1) = true := by simp [inRange, low, high]
    simp [ruleSetLinks, pattern, unwind, hp, hu, fits]

/-- Settles O48: SET_LINKS by its two checks; READ_FAULT's record and TAKE_REPORT's report are written out in order. -/
theorem linkRequests : Obligations.LinkRequests := by
  intro s l r
  refine ⟨setLinks_taken, fun h => ?_, fun h => ⟨fun none_ => ?_, fun x xs hx => ?_⟩⟩
  · exact taken_granted (rule := ruleReadFault) h rfl
  · refine taken_granted (rule := ruleTakeReport) h ?_
    simp only [ruleTakeReport, grant_exitUnit, none_]
  · refine taken_granted (rule := ruleTakeReport) h ?_
    simp only [ruleTakeReport, grant_exitUnit, hx]
    rfl

end Sys2Proof.Machine

/-!
The transactions of a link (O45).
-/

namespace Sys2Proof.Machine

/-! ## The bytes of a request frame and of a response frame (R178, R197) -/

theorem frameShape_requestCode {code : Byte} (h : 1 ≤ code.toNat ∧ code.toNat ≤ 0x3F) :
    ¬ (code = 0x00#8 ∨ code = 0x80#8) ∧ ¬ code.toNat > 0x3F := by
  refine ⟨fun hc => ?_, Nat.not_lt.mpr h.2⟩
  rcases hc with rfl | rfl
  · exact absurd h.1 (by decide)
  · exact absurd h.2 (by decide)

theorem frameShape_cases (code : Byte) (rest : List Byte) :
    (code = 0x00 ∨ code = 0x80 → frameShape (code :: rest) = .notRequest) ∧
      (0x3F < code.toNat → code ≠ 0x80 → frameShape (code :: rest) = .noOperation) ∧
      (1 ≤ code.toNat → code.toNat ≤ 0x3F →
        frameShape [code] = .cutShort code ∧
          ∀ (n : Byte) (args : List Byte),
            (60 < n.toNat → frameShape (code :: n :: args) = .complete code true []) ∧
              (n.toNat ≤ 60 → args.length < n.toNat → frameShape (code :: n :: args) = .cutShort code) ∧
              (n.toNat ≤ 60 → n.toNat ≤ args.length →
                frameShape (code :: n :: args) = .complete code false (args.take n.toNat))) := by
  refine ⟨fun h => if_pos h, fun large other => ?_, fun low high => ?_⟩
  · have notPoll : ¬ (code = 0x00#8 ∨ code = 0x80#8) := by
      rintro (rfl | h)
      · exact absurd large (by decide)
      · exact other h
    exact (if_neg notPoll).trans (if_pos large)
  · obtain ⟨notPoll, assigned⟩ := frameShape_requestCode ⟨low, high⟩
    simp only [frameShape, if_neg notPoll, if_neg assigned, true_and]
    exact fun n args => ⟨fun h => if_pos h, fun h hl => (if_neg (Nat.not_lt.mpr h)).trans (if_pos hl),
      fun h hl => (if_neg (Nat.not_lt.mpr h)).trans (if_neg (Nat.not_lt.mpr hl))⟩

theorem frameShape_ne_nil {bytes : List Byte} (h : frameShape bytes ≠ .noByte) : bytes ≠ [] := fun hb => h (by rw [hb]; rfl)

theorem attention_iff (s : State) (l : Link) :
    attention s l = true ↔ (s.links.get l).responses ≠ [] ∨ (s.notices.get l).pendingSet ≠ [] := by
  simp [attention]

theorem statusOf_eq (s : State) (l : Link) :
    statusOf s l =
      BitVec.ofNat 8
        ((s.links.get l).responses.length +
          8 * (4 - ((s.links.get l).requests.length + (s.links.get l).responses.length)) +
          (if (s.notices.get l).pendingSet = [] then 0 else 64) + (if (s.links.get l).overflow = true then 128 else 0)) := by
  have pending : 64 * (!(s.notices.get l).pendingSet.isEmpty).toNat = if (s.notices.get l).pendingSet = [] then 0 else 64 := by
    cases (s.notices.get l).pendingSet <;> rfl
  have overflow : 128 * (s.links.get l).overflow.toNat = if (s.links.get l).overflow = true then 128 else 0 := by
    cases (s.links.get l).overflow <;> rfl
  simp only [statusOf, statusByte, LinkPort.credits, pending, overflow]

/-! ## What goes out, and a port written twice -/

theorem statusThenZeros_cons (status b : Byte) (bytes : List Byte) :
    statusThenZeros status (b :: bytes).length = status :: List.replicate ((b :: bytes).length - 1) 0 := by
  simp [statusThenZeros]

theorem shiftedOut_of_le {frame : List Byte} {n : Nat} (h : frame.length ≤ n) :
    shiftedOut frame n = frame ++ List.replicate (n - frame.length) 0 := by
  simp [shiftedOut, List.take_append, List.take_of_length_le h]

theorem shiftedOut_of_lt {frame : List Byte} {n : Nat} (h : n < frame.length) : shiftedOut frame n = frame.take n := by
  simp [shiftedOut, List.take_append, Nat.sub_eq_zero_of_le h.le]

theorem shiftedOut_none (n : Nat) : shiftedOut (fetchFrame none) n = List.replicate n 0 := by
  have zeros : fetchFrame none ++ List.replicate n (0 : Byte) = List.replicate (n + 1) 0 := rfl
  rw [shiftedOut, zeros, List.take_replicate, Nat.min_eq_left (Nat.le_succ n)]

/-- A port changed twice is changed once. -/
theorem onLink_onLink (l : Link) (f g : LinkPort → LinkPort) (s : State) :
    onLink l g (onLink l f s) = onLink l (fun p => g (f p)) s := by
  simp only [onLink, perLink_get_set, perLink_set_set]

/-! ## The port that waits for its select negated (R189) -/

theorem transactionOf_waiting {s : State} {l : Link} (h : (s.links.get l).awaitDeselect = true) : transactionOf s l = none := by
  simp [transactionOf, transactionBarred, h]

theorem beginTransaction_waiting {s : State} {l : Link} (h : (s.links.get l).awaitDeselect = true) : beginTransaction l s = s := by
  simp [beginTransaction, transactionBarred, h]

theorem exec_waiting {s : State} {l : Link} (h : (s.links.get l).awaitDeselect = true) (moment : Transaction) (bytes : List Byte) :
    ∀ c ∈ [Instr.statusPoll ⟨l, moment⟩, .fetch l moment, .requestFrame l moment, .truncated l bytes], exec c s = .next s := by
  intro c hc
  simp only [List.mem_cons, List.not_mem_nil, or_false] at hc
  rcases hc with rfl | rfl | rfl | rfl
  · cases moment <;> simp [exec, execStatusPoll, transactionOf_waiting h, beginTransaction_waiting h]
  · cases moment <;> simp [exec, execFetch, transactionOf_waiting h, beginTransaction_waiting h]
  · cases moment <;> simp [exec, execRequestFrame, transactionOf_waiting h, beginTransaction_waiting h]
  · simp [exec, execTruncated, transactionOf_waiting h]

/-! ## The moments of a transaction (R177 to R180) -/

section
variable {s : State} {l : Link} (hr : s.inReset = false) (ha : (s.links.get l).awaitDeselect = false)
include hr ha

theorem transactionOf_open : transactionOf s l = (s.links.get l).transaction := by
  simp [transactionOf, transactionBarred, hr, ha]

theorem beginTransaction_eq :
    beginTransaction l s =
      if (s.links.get l).transaction = none then
        onLink l (fun p => { p with transaction := some (.opening (statusOf s l)) }) s
      else s := by
  cases ht : (s.links.get l).transaction <;> simp [beginTransaction, transactionBarred, hr, ha, ht]

theorem exec_begins :
    ∀ c ∈ [Instr.statusPoll ⟨l, .begins⟩, .fetch l .begins, .requestFrame l .begins],
      ((s.links.get l).transaction = none →
        exec c s = .next (onLink l (fun p => { p with transaction := some (.opening (statusOf s l)) }) s)) ∧
      ((s.links.get l).transaction ≠ none → exec c s = .next s) := by
  intro c hc
  have begun : exec c s = .next (beginTransaction l s) := by
    simp only [List.mem_cons, List.not_mem_nil, or_false] at hc
    rcases hc with rfl | rfl | rfl <;> rfl
  rw [begun, beginTransaction_eq hr ha]
  exact ⟨fun h => congrArg Host.Outcome.next (if_pos h), fun h => congrArg Host.Outcome.next (if_neg h)⟩

/-! ### The completion of the operation -/

section
variable {first : Byte} (ht : (s.links.get l).transaction = some (.opening first))
include ht

theorem statusPoll_completes :
    exec (.statusPoll ⟨l, .completes [0x00]⟩) s =
      .next (onLink l (fun p => { p with transaction := some .polled, shifted := [first], overflow := false }) s) := by
  simp only [exec, execStatusPoll, transactionOf_open hr ha, ht, completeOperation, onLink_onLink]
  rfl

theorem fetch_completes :
    exec (.fetch l (.completes [0x80])) s =
      .next
        (onLink l (fun p => { p with transaction := some (.fetching p.responses.head?), shifted := [first] }) s) := by
  simp only [exec, execFetch, transactionOf_open hr ha, ht, completeOperation]
  rfl

/-- A complete frame joins the queue with a credit free, else it sets the overflow flag with LINK_FULL (R178). -/
theorem requestFrame_completes {bytes : List Byte} {code : Byte} {long : Bool} {args : List Byte}
    (hf : frameShape bytes = .complete code long args) :
    let judged (p : LinkPort) : LinkPort :=
      { p with transaction := some .framed, shifted := first :: List.replicate (bytes.length - 1) 0 }
    ((s.links.get l).requests.length + (s.links.get l).responses.length < 4 →
      exec (.requestFrame l (.completes bytes)) s =
        .next (onLink l (fun p => { judged p with requests := p.requests ++ [⟨code, long, args⟩] }) s)) ∧
    (4 ≤ (s.links.get l).requests.length + (s.links.get l).responses.length →
      exec (.requestFrame l (.completes bytes)) s =
        .next (recordFault l (some code) .linkFull (onLink l (fun p => { judged p with overflow := true }) s))) := by
  intro judged
  have shifted : statusThenZeros first bytes.length = first :: List.replicate (bytes.length - 1) 0 := by
    cases bytes with
    | nil => cases hf
    | cons b bytes => exact statusThenZeros_cons first b bytes
  have accepted : exec (.requestFrame l (.completes bytes)) s = .next (acceptFrame l ⟨code, long, args⟩ (onLink l judged s)) := by
    simp only [exec, execRequestFrame, transactionOf_open hr ha, ht, hf, completeOperation, shifted]
    rfl
  have credits : ((onLink l judged s).links.get l).credits =
      4 - ((s.links.get l).requests.length + (s.links.get l).responses.length) := by
    simp only [onLink, perLink_get_set]
    rfl
  rw [accepted]
  refine ⟨fun free => ?_, fun full => ?_⟩
  · have some_ : 0 < ((onLink l judged s).links.get l).credits := by omega
    rw [acceptFrame, if_pos some_, onLink_onLink]
  · have none_ : ¬ 0 < ((onLink l judged s).links.get l).credits := by omega
    rw [acceptFrame, if_neg none_, onLink_onLink]

theorem requestFrame_noOperation {byte : Byte} (large : 0x3F < byte.toNat) (other : byte ≠ 0x80) :
    exec (.requestFrame l (.completes [byte])) s =
      .next (onLink l (fun p => { p with transaction := some .framed, shifted := [first] }) s) := by
  have shape := (frameShape_cases byte []).2.1 large other
  simp only [exec, execRequestFrame, transactionOf_open hr ha, ht, shape, completeOperation]
  rfl

theorem truncated_cutShort {bytes : List Byte} {code : Byte} (hf : frameShape bytes = .cutShort code) :
    exec (.truncated l bytes) s =
      .next
        (recordFault l (some code) .truncated
          (onLink l
            (fun p => { p with transaction := none, shifted := first :: List.replicate (bytes.length - 1) 0 }) s)) := by
  have shifted : statusThenZeros first bytes.length = first :: List.replicate (bytes.length - 1) 0 := by
    cases bytes with
    | nil => cases hf
    | cons b bytes => exact statusThenZeros_cons first b bytes
  simp only [exec, execTruncated, transactionOf_open hr ha, ht, hf, cutTransaction, shifted]

theorem truncated_noByte :
    exec (.truncated l []) s =
      .next
        (recordFault l none .truncated (onLink l (fun p => { p with transaction := none, shifted := [] }) s)) := by
  simp only [exec, execTruncated, transactionOf_open hr ha, ht, cutTransaction]
  rfl

theorem ends_opening (n : Nat) :
    ∀ c ∈ [Instr.statusPoll ⟨l, .ends n⟩, .fetch l (.ends n), .requestFrame l (.ends n)], exec c s = .next s := by
  intro c hc
  simp only [List.mem_cons, List.not_mem_nil, or_false] at hc
  rcases hc with rfl | rfl | rfl
  · simp only [exec, execStatusPoll, transactionOf_open hr ha, ht]
  · simp only [exec, execFetch, transactionOf_open hr ha, ht]
  · simp only [exec, execRequestFrame, transactionOf_open hr ha, ht]

end

/-- Without an operation open, a completion and a truncation have no effect (log 2). -/
theorem exec_not_opening (ht : ∀ first, (s.links.get l).transaction ≠ some (.opening first)) (bytes : List Byte) :
    ∀ c ∈ [Instr.statusPoll ⟨l, .completes bytes⟩, .fetch l (.completes bytes), .requestFrame l (.completes bytes),
      .truncated l bytes], exec c s = .next s := by
  intro c hc
  rw [← transactionOf_open hr ha] at ht
  simp only [List.mem_cons, List.not_mem_nil, or_false] at hc
  rcases hc with rfl | rfl | rfl | rfl
  · simp only [exec, execStatusPoll]
  · simp only [exec, execFetch]
  · simp only [exec, execRequestFrame]
  · simp only [exec, execTruncated]

/-! ### The end -/

theorem statusPoll_ends (n : Nat) (ht : (s.links.get l).transaction = some .polled) :
    exec (.statusPoll ⟨l, .ends n⟩) s = .next (endTransaction l (List.replicate n 0) s) := by
  simp only [exec, execStatusPoll, transactionOf_open hr ha, ht]

theorem requestFrame_ends (n : Nat) (ht : (s.links.get l).transaction = some .framed) :
    exec (.requestFrame l (.ends n)) s = .next (endTransaction l (List.replicate n 0) s) := by
  simp only [exec, execRequestFrame, transactionOf_open hr ha, ht]

theorem fetch_ends_none (n : Nat) (ht : (s.links.get l).transaction = some (.fetching none)) :
    exec (.fetch l (.ends n)) s = .next (endTransaction l (List.replicate n 0) s) := by
  simp only [exec, execFetch, transactionOf_open hr ha, ht, shiftedOut_none, endTransaction, onLink_onLink]
  rfl

/-- A fetch removes its response when the whole frame went out (R180). -/
theorem fetch_ends_some (n : Nat) {x : Response} (ht : (s.links.get l).transaction = some (.fetching (some x))) :
    (x.frame.length ≤ n →
      exec (.fetch l (.ends n)) s =
        .next
          (onLink l
            (fun p => { p with
              transaction := none, shifted := p.shifted ++ (x.frame ++ List.replicate (n - x.frame.length) 0)
              responses := p.responses.tail }) s)) ∧
    (n < x.frame.length → exec (.fetch l (.ends n)) s = .next (endTransaction l (x.frame.take n) s)) := by
  refine ⟨fun whole => ?_, fun part => ?_⟩
  · simp [exec, execFetch, transactionOf_open hr ha, ht, fetchFrame, whole, shiftedOut_of_le whole, endTransaction, onLink_onLink]
  · simp [exec, execFetch, transactionOf_open hr ha, ht, fetchFrame, Nat.not_le.mpr part, shiftedOut_of_lt part, endTransaction,
      onLink_onLink]

end

/-- Settles O45: every moment of every kind of transaction, by what the port holds. -/
theorem transactions : Obligations.Transactions := by
  refine ⟨⟨rfl, frameShape_cases⟩, fun x => rfl, by decide, attention_iff, fun s l hr => ⟨?_, exec_waiting, statusOf_eq s l, fun ha => ?_⟩⟩
  · exact if_neg (by simp [hr])
  · refine ⟨exec_begins hr ha, fun first ht => ?_, fun n => ?_, fun ht => exec_not_opening hr ha ht⟩
    · exact ⟨statusPoll_completes hr ha ht, fetch_completes hr ha ht, fun bytes code long args => requestFrame_completes hr ha ht,
        fun byte => requestFrame_noOperation hr ha ht, fun bytes code => truncated_cutShort hr ha ht,
        truncated_noByte hr ha ht, ends_opening hr ha ht⟩
    · exact ⟨statusPoll_ends hr ha n, requestFrame_ends hr ha n, fetch_ends_none hr ha n, fun x => fetch_ends_some hr ha n⟩

end Sys2Proof.Machine

/-!
The READ requests: what each answers (O50).
-/

namespace Sys2Proof.Machine

/-! ## Numbers, flags and causes in a response (R197, 12.4) -/

theorem le_length (w n : Nat) : (le w n).length = w := by
  induction w generalizing n with
  | zero => rfl
  | succ w ih => rw [le, List.length_cons, ih]

theorem leNat_le {w n : Nat} (h : n < 256 ^ w) : leNat (le w n) = n := by
  induction w generalizing n with
  | zero => rw [Nat.lt_one_iff.mp h]; rfl
  | succ w ih =>
    have rest : n / 256 < 256 ^ w := Nat.div_lt_of_lt_mul (by rwa [Nat.mul_comm, ← Nat.pow_succ])
    have byte : (BitVec.ofNat 8 n).toNat = n % 256 := BitVec.toNat_ofNat ..
    rw [le, leNat, ih rest, byte]
    exact Nat.mod_add_div n 256

theorem num_le_field {w n : Nat} (h : n < 256 ^ w) : num w n = le w n ∧ (le w n).length = w ∧ field (le w n) 0 w = n := by
  refine ⟨if_pos h, le_length w n, ?_⟩
  have whole : ((le w n).drop 0).take w = le w n := List.take_of_length_le (le_length w n).le
  rw [field, whole, leNat_le h]

/-- A flag's bit is its weight or nothing. -/
theorem toNat_mul_eq_ite (b : Bool) (k : Nat) : (if b then k else 0) = k * b.toNat := by cases b <;> simp

theorem panelFlags_bits (f : PanelFlags) :
    f.bits =
      ([(f.missedFold, 1), (f.lateFold, 2), (f.abortedFold, 4), (f.seam, 8), (f.underSet, 16), (f.overSet, 32),
        (f.heatUnknown, 64), (f.regLost, 128), (f.strokeClamped, 256)].map (fun x => if x.1 then x.2 else 0)).sum := by
  simp only [PanelFlags.bits, bitsOf, List.map_cons, List.map_nil, List.sum_cons, List.sum_nil, toNat_mul_eq_ite]
  ring

theorem causeSet_bits (c : CauseSet) :
    c.bits =
      ([(c.safe, 1), (c.operator, 2), (c.overrun, 4), (c.reverse, 8), (c.mapFull, 16), (c.rollOut, 32),
        (c.spliceFail, 64), (c.positionEnd, 128)].map (fun x => if x.1 then x.2 else 0)).sum := by
  simp only [CauseSet.bits, bitsOf, List.map_cons, List.map_nil, List.sum_cons, List.sum_nil, toNat_mul_eq_ite]
  ring

/-! ## The lengths and links of the READ requests (12.3) -/

theorem reads_accepted (l : Link) (n : Nat) :
    (∀ c ∈ [RequestCode.readTracking, .readHead, .readRun, .readUnwind, .readStatus, .readTime],
        c.acceptedOn l = true ∧ (c.lengthOk n = true ↔ n = 0)) ∧
      (∀ c ∈ [RequestCode.readQueue, .readPlan, .readMarks, .readMap, .readHeat],
        c.acceptedOn l = true ∧ (c.lengthOk n = true ↔ n = 1)) ∧
      RequestCode.readPattern.acceptedOn l = true ∧ (RequestCode.readPattern.lengthOk n = true ↔ n = 2) := by
  simp [RequestCode.acceptedOn, RequestCode.lengthOk]

/-! ## What a READ answers -/

/-- A READ that its rule grants leaves the state as the grant left it. -/
theorem read_answers {c : RequestCode} {rule : Link → List Byte → State → Reply} {l : Link} {r : QueuedRequest} {s : State}
    {data answer : List Byte} (h : Taking c l r s) (hc : exec c.command s = .next (takeRequest c rule s))
    (hr : rule l r.args (grant l s) = .granted (grant l s) data) (hd : data = answer) :
    exec c.command s = .next (respond l r.code .granted answer (grant l s)) := by
  rw [hc, taken_granted h hr, hd]

/-- A READ that its rule refuses. -/
theorem read_refused {c : RequestCode} {rule : Link → List Byte → State → Reply} {l : Link} {r : QueuedRequest} {s : State}
    (h : Taking c l r s) (hc : exec c.command s = .next (takeRequest c rule s))
    (hr : rule l r.args (grant l s) = .refused .range) :
    exec c.command s = .next (refuse l r.code .range (grant l s)) := by
  rw [hc, taken_refused h hr]

theorem direction_number (d : Direction) : d.number = if d = .reverse then 1 else 0 := by cases d <;> rfl

/-- The region as read: its number, then its span with a presence byte. -/
def regionBytes : Region → List Byte
  | .folding => num 1 0 ++ List.replicate 11 0
  | .flat a b => num 1 1 ++ 1 :: (num 5 a ++ num 5 b)

theorem append_regionBytes (before : List Byte) (r : Region) :
    before ++ num 1 r.number ++ optional 10 (fun r : Nat × Nat => posBytes r.1 ++ posBytes r.2) r.span = before ++ regionBytes r := by
  rw [List.append_assoc]
  cases r <;> rfl

/-- Settles O50: each READ's rule grants with the fields of its own list, or refuses an index out of range. -/
theorem readsChangeNothing : Obligations.ReadsChangeNothing := by
  refine ⟨reads_accepted, fun w n h => num_le_field h, panelFlags_bits, causeSet_bits, by decide, fun slot => by cases slot <;> rfl, ?_⟩
  intro s l r c h answers outOfRange first time timerEnd
  refine ⟨?_, ?_, ?_, ?_, ?_, ?_, ?_, ?_, ?_, ?_, ?_, ?_⟩
  · -- READ_TRACKING (R17)
    rintro rfl
    refine read_answers h rfl rfl ?_
    simp only [TrackingSettings.bytes, direction_number, List.append_assoc]
    rfl
  · -- READ_PATTERN (R30)
    rintro rfl
    refine ⟨fun out => read_refused (rule := ruleReadPattern) h rfl ?_, fun i hi fits => ?_⟩
    · rcases out with out | out
      · have none_ : slotOf (field r.args 0 1) = none := slotOf_of_gt out
        simp only [ruleReadPattern, none_]
      · cases hi : slotOf (field r.args 0 1) with
        | none => simp only [ruleReadPattern, hi]
        | some i => simp only [ruleReadPattern, hi, if_pos out]
    · have named : slotOf (field r.args 0 1) = some i := hi
      refine read_answers (rule := ruleReadPattern) h rfl
        (by simp only [ruleReadPattern, named, if_neg (Nat.not_lt.mpr fits)]; rfl) ?_
      rfl
  · -- READ_QUEUE (R39)
    rintro rfl
    refine ⟨fun out => read_refused h rfl (if_pos out), fun fits => read_answers h rfl (if_neg (Nat.not_lt.mpr fits)) ?_⟩
    rfl
  · -- READ_PLAN (R57)
    rintro rfl
    refine ⟨fun out => read_refused h rfl (if_pos out), fun fits => ⟨_, plannerReports_condition s, ?_⟩⟩
    intro context entry
    have entries : PlanEntry.bytes = entry := by
      funext e
      obtain ⟨kind, position, serial⟩ := e
      cases kind <;> simp [PlanEntry.bytes, entry, EntryKind.number, EntryKind.fieldBytes, posBytes]
    refine read_answers h rfl (if_neg (Nat.not_lt.mpr fits)) ?_
    rw [entries]
    rfl
  · -- READ_MARKS (R71)
    rintro rfl
    refine ⟨fun out => read_refused h rfl (if_pos out), fun fits => read_answers h rfl (if_neg (Nat.not_lt.mpr fits)) ?_⟩
    have outcomes : outcomeNumber s.marks.outcome = (s.marks.outcome.map (fun o => o.outcome.number)).getD 0 := by
      cases s.marks.outcome <;> rfl
    simp only [grant_marks, outcomes]
    rcases s.marks.measurement with _ | ⟨lead, head, width, _ | _ | _⟩ <;> rfl
  · -- READ_HEAD (R90)
    rintro rfl
    refine read_answers h rfl rfl ?_
    simp only [grant_head, HeadSetup.bytes, ← List.append_assoc, append_regionBytes]
    rfl
  · -- READ_RUN (R108)
    rintro rfl
    intro active complete
    have causes : activeCauses s = active := by
      have rollOut : rollOutHolds s.unwind = decide (∀ roll ∈ runningRoll s.unwind, roll.length ≤ s.unwind.settings.endReserve) := by
        unfold rollOutHolds
        cases runningRoll s.unwind <;> simp
      simp only [activeCauses, active, rollOut, spliceFailHolds]
    have drained : drainComplete s = complete := by
      rw [Bool.eq_iff_iff]
      simp [drainComplete, complete]
    refine read_answers h rfl rfl ?_
    have same : activeCauses (grant l s) = activeCauses s ∧ drainComplete (grant l s) = drainComplete s := ⟨rfl, rfl⟩
    simp only [grant_run, grant_levels, same, causes, drained]
    rfl
  · -- READ_MAP (R125)
    rintro rfl
    refine ⟨fun out => read_refused h rfl (if_pos out), fun fits => ?_⟩
    intro segment newest
    have segments : segmentBytes s = segment := by
      funext g
      have distance : (trailingDistance s g).getD 0 = g.trailing.elim 0 (fun p => s.carrier.position - p) := by
        unfold trailingDistance
        cases g.trailing <;> rfl
      rw [segmentBytes, distance]
      simp only [segment]
      cases g.trailing <;> rfl
    have same : segmentBytes (grant l s) = segmentBytes s := rfl
    refine read_answers h rfl (if_neg (Nat.not_lt.mpr fits)) ?_
    rw [same, segments]
    have cut : optional 6 (fun t : Timer => timeBytes t.endTime) s.exitUnit.cut = timerEnd s.exitUnit.cut := by
      cases s.exitUnit.cut <;> rfl
    simp only [grant_exitUnit, cut]
    rfl
  · -- READ_HEAT (R149)
    rintro rfl
    refine ⟨fun out => read_refused (rule := ruleReadHeat) h rfl ?_, fun z hz => ?_⟩
    · have none_ : zoneOf (field r.args 0 1) = none := zoneOf_none.mpr out
      simp only [ruleReadHeat, none_]
    · intro brief w q
      have named : zoneOf (field r.args 0 1) = some z := hz
      have briefs (x : ZoneId) : zoneBytes (grant l s) x = brief x := rfl
      refine read_answers (rule := ruleReadHeat) h rfl (by simp only [ruleReadHeat, named]; rfl) ?_
      simp only [briefs, zoneFullBytes, ← List.append_assoc]
      rfl
  · -- READ_UNWIND (R173)
    rintro rfl
    intro u roll reason seat splice paste
    have spliceRead : u.splice.bytes = splice := by
      simp only [splice]
      cases u.splice <;> simp only [Splice.bytes, seat, List.append_assoc] <;> rfl
    have pulse (t : Option Timer) : pulseEnd t = timerEnd t := by cases t <;> rfl
    refine read_answers h rfl rfl ?_
    simp only [grant_unwind, UnwindSettings.bytes, pulse, ← List.append_assoc]
    rw [show s.unwind.splice.bytes = splice from spliceRead]
    rfl
  · -- READ_STATUS (R186)
    rintro rfl
    intro port
    have ports (x : Link) : linkBytes (grant l s) l x = port x := by
      have asking : (if l = x then 1 else 0) = if x = l then 1 else 0 := if_congr eq_comm rfl rfl
      simp only [linkBytes, asking]
      rfl
    refine read_answers h rfl rfl ?_
    simp only [ports]
    rfl
  · -- READ_TIME (R187)
    rintro rfl
    exact read_answers h rfl rfl rfl

end Sys2Proof.Machine
